-- ==== Sys2Proof/Word.lean ====
section
/-!
DEFINITION. The bytes the ISB-62 exchanges on its ship link, its terminal bus, its metering port and its
configuration memory. Every other quantity of the manual is an integer with a unit (section 1.7), held as a
natural number or an integer.
-/

namespace Sys2Proof

/-- One byte of a delivery, a frame, a message or the configuration image (chapter 12). -/
abbrev Byte := BitVec 8

end Sys2Proof
end

