-- ==== Sys2Proof/Syntax.lean ====
section
/-!
DEFINITION. The commands of the part: one constructor of `Instr` for each row of spec/opcode_table.json, with the
operands the rule of the row names. An operand that comes in on a line as bytes is a list of bytes, and a metering
delivery is the list of its bits. A row of a frame of another station carries the frame, identifier and data: what the
frame is and whether it is taken, the tests of R130 read from it (log entry 63).
-/

namespace Sys2Proof

/-- The four plug positions of the outlet (section 1.2 of chapter 1). -/
inductive PlugNo where
  | p1 | p2 | p3 | p4
  deriving DecidableEq, Repr

/-- The three panel buttons (R172). -/
inductive Button where
  | connect | release | ack
  deriving DecidableEq, Repr

/-- The errors of the CAN interface (R128): an error found while transmitting, a transmission that fails only for
want of an acknowledgement, an error found while receiving. -/
inductive BusError where
  | transmit | unacknowledged | receive
  deriving DecidableEq, Repr

/-- A data frame of the terminal bus: its identifier and its data bytes (section 8.1). -/
structure BusFrame where
  ident : BitVec 11
  data : List Byte
  deriving DecidableEq, Repr

/-- The commands, one constructor for each row of spec/opcode_table.json, in the table's order. -/
inductive Instr where
  /-- POWER_ON: supply is applied with the berth straps `straps`. -/
  | powerOn (straps : BitVec 5)
  /-- RESET_ASSERTED. -/
  | resetAsserted
  /-- RESET_RELEASED: the straps are read as `straps`. -/
  | resetReleased (straps : BitVec 5)
  /-- CONFIG_LOAD_END: the configuration memory held `image`. -/
  | configLoadEnd (image : List Byte)
  /-- CENSUS_TIMER_EXPIRY. -/
  | censusTimerExpiry
  /-- PILOT_MADE. -/
  | pilotMade (plug : PlugNo)
  /-- PILOT_OPENED. -/
  | pilotOpened (plug : PlugNo)
  /-- VALIDATION_TIMER_EXPIRY. -/
  | validationTimerExpiry (plug : PlugNo)
  /-- EARTHCHK_CHANGE: the filtered input now shows the loop intact (`passing`) or not. -/
  | earthchkChange (passing : Bool)
  /-- LATCH_FEEDBACK_CHANGE: the filtered LFB of the plug now shows ENGAGED or FREE. -/
  | latchFeedbackChange (plug : PlugNo) (engaged : Bool)
  /-- ENGAGE_SUPERVISION_EXPIRY. -/
  | engageSupervisionExpiry
  /-- DEAD_TIMER_EXPIRY. -/
  | deadTimerExpiry
  /-- ESW_POSITION_CHANGE: the filtered position contacts, each made or released. -/
  | eswPositionChange (posc poso : Bool)
  /-- ESW_TRAVEL_TIMER_EXPIRY. -/
  | eswTravelTimerExpiry
  /-- ESW_SETTLE_TIMER_EXPIRY. -/
  | eswSettleTimerExpiry
  /-- METERING_DELIVERY: the bits clocked in between two frame markers, in the order in which they came. -/
  | meteringDelivery (bits : List Bool)
  /-- CHECK_EVENT. -/
  | checkEvent
  /-- PHASE_TIMER_EXPIRY. -/
  | phaseTimerExpiry
  /-- RELEASE_DELAY_EXPIRY. -/
  | releaseDelayExpiry
  /-- SLOT_TIMER_EXPIRY. -/
  | slotTimerExpiry
  /-- QUIET_TIMER_EXPIRY. -/
  | quietTimerExpiry
  /-- ISOLATING_WATCH_EXPIRY. -/
  | isolatingWatchExpiry
  /-- CONNECT_PRESS. -/
  | connectPress
  /-- RELEASE_PRESS. -/
  | releasePress
  /-- ACK_PRESS. -/
  | ackPress
  /-- HARD_RELEASE. -/
  | hardRelease
  /-- LOCKOUT_CLEAR. -/
  | lockoutClear
  /-- BUTTON_INPUT_CHANGE: a button is pressed (`true`) or let go. -/
  | buttonInputChange (button : Button) (pressed : Bool)
  /-- BUTTON_LETGO_EXPIRY. -/
  | buttonLetgoExpiry (button : Button)
  /-- REFUSAL_FLASH_END. -/
  | refusalFlashEnd
  /-- PATTERN_CLOCK_TICK. -/
  | patternClockTick
  /-- AUX_CONTACT_CHANGE: the filtered auxiliary contacts, each made or released. -/
  | auxContactChange (auxc auxo : Bool)
  /-- CLOSE_PULSE_END. -/
  | closePulseEnd
  /-- TRIP_PULSE_END. -/
  | tripPulseEnd
  /-- CLOSE_SUPERVISION_EXPIRY. -/
  | closeSupervisionExpiry
  /-- OPEN_SUPERVISION_EXPIRY. -/
  | openSupervisionExpiry
  /-- CONTACT_WATCH_EXPIRY. -/
  | contactWatchExpiry
  /-- ANTI_PUMP_EXPIRY. -/
  | antiPumpExpiry
  /-- ESTOP_CHANGE: the filtered chain is now open (`true`) or made. -/
  | estopChange (isOpen : Bool)
  /-- TRANSFER_IN: the mode byte of the message. -/
  | transferIn (mode : Byte)
  /-- READY. -/
  | ready
  /-- UNLOADED. -/
  | unloaded
  /-- HANDBACK: the mode byte of the message. -/
  | handback (mode : Byte)
  /-- TAKEN. -/
  | taken
  /-- ABANDON. -/
  | abandon
  /-- SHIP_HELLO: the 24 payload bytes. -/
  | shipHello (payload : List Byte)
  /-- SHIP_STATUS: the 12 payload bytes. -/
  | shipStatus (payload : List Byte)
  /-- SHIP_FRAME_DISCARD. -/
  | shipFrameDiscard
  /-- SHIP_BYTE_GAP_TIMEOUT. -/
  | shipByteGapTimeout
  /-- SHIP_TRANSMIT_END. -/
  | shipTransmitEnd
  /-- SILENCE_TIMER_EXPIRY. -/
  | silenceTimerExpiry
  /-- HELLO_TIMER_EXPIRY. -/
  | helloTimerExpiry
  /-- CEILING_TIMER_EXPIRY. -/
  | ceilingTimerExpiry
  /-- LINK_HOLD_EXPIRY. -/
  | linkHoldExpiry
  /-- STATUS: the identifier and the data bytes of the frame. -/
  | status (ident : BitVec 11) (data : List Byte)
  /-- BID: likewise. -/
  | bid (ident : BitVec 11) (data : List Byte)
  /-- OBJECT: likewise. -/
  | object (ident : BitVec 11) (data : List Byte)
  /-- STEP_BID: likewise. -/
  | stepBid (ident : BitVec 11) (data : List Byte)
  /-- STEP_FREE: likewise. -/
  | stepFree (ident : BitVec 11) (data : List Byte)
  /-- QUERY_SUMMARY: the identifier and the data bytes of the QUERY. -/
  | querySummary (ident : BitVec 11) (data : List Byte)
  /-- QUERY_TRIP: the QUERY. -/
  | queryTrip (frame : BusFrame)
  /-- QUERY_RESULT: the QUERY. -/
  | queryResult (frame : BusFrame)
  /-- QUERY_PEER: the identifier and the data bytes of the QUERY. -/
  | queryPeer (ident : BitVec 11) (data : List Byte)
  /-- ACK_TRIP: the identifier and the data bytes of the frame. -/
  | ackTrip (ident : BitVec 11) (data : List Byte)
  /-- CLEAR_ATTENTION: the identifier and the data bytes of the CONTROL. -/
  | clearAttention (ident : BitVec 11) (data : List Byte)
  /-- FORGET_PEER: the identifier and the data bytes of the CONTROL. -/
  | forgetPeer (ident : BitVec 11) (data : List Byte)
  /-- OWN_NUMBER_FRAME: a frame with the own berth number as its sender, whatever its kind, length and content. -/
  | ownNumberFrame
  /-- FRAME_DISREGARDED: a frame that fails another test of R130, whatever else it holds. -/
  | frameDisregarded
  /-- OWN_FRAME_COMPLETION: the identifier of the frame that completes. -/
  | ownFrameCompletion (ident : BitVec 11)
  /-- STATUS_PERIOD_EXPIRY. -/
  | statusPeriodExpiry
  /-- QUEUE_TIMER_EXPIRY. -/
  | queueTimerExpiry
  /-- CAN_ERROR. -/
  | canError (error : BusError)
  /-- BUS_OFF_RECOVERY. -/
  | busOffRecovery
  /-- PEER_STALE: berth n. -/
  | peerStale (berth : Nat)
  /-- PEER_BID_WINDOW_END: berth n. -/
  | peerBidWindowEnd (berth : Nat)
  /-- PEER_STEP_BID_WINDOW_END: berth n. -/
  | peerStepBidWindowEnd (berth : Nat)
  /-- PEER_STEP_HOLD_EXPIRY: berth n. -/
  | peerStepHoldExpiry (berth : Nat)
  /-- OWN_WINDOW_EXPIRY. -/
  | ownWindowExpiry
  /-- BACKOFF_EXPIRY. -/
  | backoffExpiry
  /-- GRACE_TIMER_EXPIRY. -/
  | graceTimerExpiry
  /-- TOPUP_TIMER_EXPIRY. -/
  | topupTimerExpiry
  /-- BUDGET_WAIT_ONSET. -/
  | budgetWaitOnset
  /-- PASS_TIMER_EXPIRY. -/
  | passTimerExpiry
  /-- ATTENTION_PULSE_END. -/
  | attentionPulseEnd
  /-- SHIP_LINK_BYTE_RECEIVED: the byte, and whether its stop bit was absent. -/
  | shipLinkByteReceived (byte : Byte) (framingError : Bool)
  /-- REFUSAL_FLASH_TOGGLE. -/
  | refusalFlashToggle
  deriving DecidableEq, Repr

end Sys2Proof
end

