-- ==== Sys2Proof/Decode.lean ====
section
/-!
DEFINITION. The part has no instruction words: no row of spec/opcode_table.json gives any bits, so no word spells a
command. The frames and messages that arrive as bytes are decoded in the blocks that receive them (Machine/Formats,
Machine/ShipLink, Machine/TerminalBus).
-/

namespace Sys2Proof

/-- The command a word spells by the table's bits: none, since no row of the table gives bits. -/
def decodeTableWord (_nbits _w : Nat) : Option Instr := none

end Sys2Proof
end

