-- ==== Sys2Proof/Config.lean ====
section
/-!
DEFINITION. The free values: what the manual leaves open and no proof may see. The configured figures of the part
are NOT here: they are read from the configuration image at start (R180) and stand in State.
-/

namespace Sys2Proof

/-- DESIGN CHOICE (log entry 17). The running time shown once more than 4294967295 s have passed since the load: the
table of section 3.1 gives the range 0 to 4294967295 and no rule says what follows. It has no body, so nothing can be
proved of its value. -/
opaque Config.runTimePast : Nat → BitVec 32

/-- DESIGN CHOICE (log entry 42). What the energy field (0) or the residue field (1) of a result item holds when its
presence bit is clear, in the record of this sequence number: section 12.7 states no value for it. It has no body. -/
opaque Config.absentResult : (field seq : Nat) → BitVec 16

end Sys2Proof
end

