-- ==== Sys2Proof/Machine/Types.lean ====
section
/-!
DEFINITION. The types of what each functional block holds (section 1.3 of the manual): one structure for each block,
one field for each item its chapter lists. A name of the manual that Lean keeps for itself is written in the past
participle: OPEN is `opened`, CLOSED is `closed`.
-/

namespace Sys2Proof.Machine

/-- A timer: idle, or running with this many ms left. -/
abbrev Timer := Option Nat

/-- One value for each plug position of the outlet. -/
structure Four (α : Type) where
  p1 : α
  p2 : α
  p3 : α
  p4 : α
  deriving DecidableEq, Repr

/-- One value for each phase. -/
structure Three where
  l1 : Nat
  l2 : Nat
  l3 : Nat
  deriving DecidableEq, Repr

/-! ### Codes shared by several blocks -/

/-- The sequencer states, section 3.1. -/
inductive SeqState where
  | start | vacant | hooked | proving | ready | syncing | deadwait | parallel | shore | releaseWait | handback
  | unloading | isolating | lockout
  deriving DecidableEq, Repr

/-- The trip sources, section 6.1, in the order of section 12.6. -/
inductive Source where
  | eStop | pilotLoss | earthContinuity | earthFault | overcurrent | overload | reversePower | shoreLoss | meteringLost
  | breakerDrop | breakerFail | unexpectedClose | earthingSwitch
  deriving DecidableEq, Repr

/-- Transfer mode (section 3.1): none, CLOSED or OPEN. -/
inductive Mode where
  | none | closed | opened
  deriving DecidableEq, Repr

/-- The causes a result record or a REFUSED carries, sections 3.13 and 12.6. -/
inductive Cause where
  | none
  | trip (source : Source)
  | latchFail | plugDisturbed | shoreUnstable | budget | switchTimeout | stepBusy | shipTimeout | syncTimeout
  | deadTimeout | liveBus | phaseSequence | closeFail | parallelTimeout | linkLost | operator | shipAbandon
  | releaseExpired | unloadTimeout | hardRelease
  | masked | retries | tripLatched | mode | sequence
  deriving DecidableEq, Repr

/-- How a procedure ended, section 12.6. -/
inductive Ending where
  | completed | forced | aborted | failed | superseded | reset
  deriving DecidableEq, Repr

/-- The kinds of result record, section 3.2. -/
inductive RecordKind where
  | transferIn | handback | fallback
  deriving DecidableEq, Repr

/-! ### PSM and ESD, chapter 1 -/

/-- The pilot state of a plug. -/
inductive PilotState where
  | opened | validating | made
  deriving DecidableEq, Repr

/-- The set state of R3. -/
inductive SetState where
  | empty | partSet | complete
  deriving DecidableEq, Repr

/-- An entry of the plug set table (section 1.2); its latch feedback is the filtered LFB input, held with the pins. -/
structure Plug where
  pilot : PilotState
  validation : Timer
  engaged : Bool
  confirmed : Bool
  deriving DecidableEq, Repr

/-- What the plug set monitor holds. -/
structure Psm where
  plugs : Four Plug
  driven : Bool
  earthPassing : Bool
  setState : SetState
  engage : Timer
  releasePending : Bool
  live : Bool
  dead1s : Bool
  deadTimer : Timer
  lossWhileLive : Bool
  deriving DecidableEq, Repr

/-- The earthing switch states of R11. -/
inductive EswState where
  | opened | closed | moving | fault
  deriving DecidableEq, Repr

/-- The direction held in MOVING. -/
inductive EswDir where
  | none | toOpen | toClosed
  deriving DecidableEq, Repr

/-- The pending request of the earthing switch drive. -/
inductive EswRequest where
  | none | opening | closing
  deriving DecidableEq, Repr

/-- What the earthing switch drive holds. -/
structure Esd where
  state : EswState
  dir : EswDir
  driving : Bool
  travel : Timer
  settle : Timer
  request : EswRequest
  deriving DecidableEq, Repr

/-! ### MTP and SPV, chapter 2 -/

/-- A phase sequence of a reading set. -/
inductive PhaseSeq where
  | none | positive | negative
  deriving DecidableEq, Repr

/-- An accepted reading set with its clamp flags (section 2.1). -/
structure ReadingSet where
  shoreV : Three
  shipV : Three
  shoreF : Nat
  shipF : Nat
  theta : Int
  current : Three
  residual : Nat
  s : Nat
  p : Int
  shoreSeq : PhaseSeq
  shipSeq : PhaseSeq
  serial : Nat
  shoreVClamp : Bool
  shipVClamp : Bool
  shoreFClamp : Bool
  shipFClamp : Bool
  deriving DecidableEq, Repr

/-- What the metering port holds (section 2.3). The last accepted serial is the serial of the last accepted set, and
the derived conditions of R26 are functions of that set. -/
structure Mtp where
  last : Option ReadingSet
  armed : Bool
  latch : Bool
  miss : Nat
  lost : Bool
  recovery : Nat
  check : Timer
  deriving DecidableEq, Repr

/-- What the supply prover holds (section 2.6). -/
structure Spv where
  stability : Nat
  proven : Bool
  badRun : Nat
  recovery : Nat
  shoreLoss : Bool
  deriving DecidableEq, Repr

/-! ### SYC, chapter 5 -/

/-- What the synchronism checker is judging. -/
inductive Watch where
  | idle | syncPending | syncActive | deadPending | deadActive
  deriving DecidableEq, Repr

/-- The verdicts of R92. -/
inductive Verdict where
  | idle | noMetering | none | clamp | shipVoltage | difference | slip | sequence | angle | dead | live
  deriving DecidableEq, Repr

/-- What the synchronism checker holds (section 5.1). -/
structure Syc where
  watch : Watch
  good : Nat
  permit : Bool
  dead : Nat
  confirm : Bool
  negative : Nat
  lastDf : Option Int
  lastPred : Option Int
  verdict : Verdict
  deriving DecidableEq, Repr

/-! ### BKD, chapter 4 -/

/-- The breaker states of section 4.1. -/
inductive BreakerState where
  | opened | closing | closed | opening | failed
  deriving DecidableEq, Repr

/-- The contact readings of R68. -/
inductive Contact where
  | opened | closed | between | invalid
  deriving DecidableEq, Repr

/-- The refusal causes of R71. -/
inductive CloseRefusal where
  | busy | tripLatched | noSlot | interlock | antiPump
  deriving DecidableEq, Repr

/-- What the breaker drive holds. CLOSE is asserted while its pulse timer runs, and TRIP while its own does. -/
structure Bkd where
  state : BreakerState
  reading : Contact
  hold : Bool
  upstream : Bool
  closePulse : Timer
  tripPulse : Timer
  closeSup : Timer
  openSup : Timer
  contactWatch : Timer
  antiPump : Timer
  refusedClose : Bool
  slotHeld : Bool
  deriving DecidableEq, Repr

/-! ### PTU, chapter 6 -/

/-- What the protection unit holds. The latched set lists its sources in the order they were latched; `levelK` is the K
with which the last accepted set was judged (R103). -/
structure Ptu where
  latched : List Source
  firstOut : Option Source
  firstOutTime : Option Nat
  earlierRun : Bool
  age : Nat
  eStop : Bool
  earthRun : Nat
  earthFault : Bool
  overcurrentRun : Nat
  reverseRun : Nat
  acc : Nat
  levelK : Nat
  overArmed : Bool
  notice : Bool
  deriving DecidableEq, Repr

/-! ### CSQ, chapter 3 -/

/-- The sub-phases of SYNCING and DEADWAIT (section 3.7). -/
inductive SubPhase where
  | none | awaitingReady | awaitingPermission | closing
  deriving DecidableEq, Repr

/-- The two procedures. -/
inductive ProcKind where
  | transferIn | handback
  deriving DecidableEq, Repr

/-- A procedure in progress (R35), with the outcome and cause a HANDBACK keeps through ISOLATING. -/
structure Procedure where
  kind : ProcKind
  mode : Mode
  start : Nat
  fixed : Option (Ending × Cause)
  deriving DecidableEq, Repr

/-- The reset marker (section 3.1). -/
structure Marker where
  kind : ProcKind
  mode : Mode
  start : Nat
  deriving DecidableEq, Repr

/-- A result record (R36). -/
structure Record where
  seq : Nat
  kind : RecordKind
  ending : Ending
  cause : Cause
  mode : Mode
  start : Nat
  duration : Nat
  energy : Option Nat
  residue : Option Nat
  peak : Nat
  deriving DecidableEq, Repr

/-- What the changeover sequencer holds (section 3.1). -/
structure Csq where
  state : SeqState
  sub : SubPhase
  proc : Option Procedure
  mode : Mode
  mask : Bool
  retry : Nat
  closeFail : Nat
  phase : Timer
  releaseDelay : Timer
  slotTimer : Timer
  unloadRun : Nat
  quiet : Timer
  isoWatch : Timer
  cableLive : Bool
  peak : Nat
  shoreEntry : Option Nat
  tripIso : Bool
  log : List Record
  seq : Nat
  marker : Option Marker
  clockMs : Nat
  deriving DecidableEq, Repr

/-! ### SLC, chapter 7 -/

/-- The link states of section 7.3. -/
inductive LinkState where
  | down | waiting | up | incompatible | lost
  deriving DecidableEq, Repr

/-- The incompatibility cause of R116. -/
inductive Incompat where
  | none | frequency | voltage
  deriving DecidableEq, Repr

/-- The ship's own report of what feeds its main bus (section 7.4). -/
inductive ShipBus where
  | unknown | generators | parallel | shore | dead
  deriving DecidableEq, Repr

/-- A message to the ship (R124 to R126). -/
inductive ShipMsg where
  | berthHello (berth vn fn np r : Nat)
  | ceiling (floor charge : Nat)
  | proceed (mode : Mode) (limit : Nat)
  | closed | opened | over | fallback
  | release (cancel : Bool)
  | refused (cause : Cause)
  deriving DecidableEq, Repr

/-- The receiver of R112: hunting, or in a frame of which these bytes have come. -/
inductive Receiver where
  | hunting
  | inFrame (bytes : List Byte)
  deriving DecidableEq, Repr

/-- What the ship link controller holds, the ship figures of section 7.4 among it. -/
structure Slc where
  link : LinkState
  silence : Timer
  hello : Timer
  ceiling : Timer
  linkHold : Timer
  holdExpired : Bool
  incompat : Incompat
  lastCeiling : Option (Nat × Nat)
  queue : List ShipMsg
  sending : Option ShipMsg
  rx : Receiver
  gap : Timer
  shipNumber : Option Nat
  offersClosed : Bool
  offersOpen : Bool
  h : Nat
  c : Nat
  e : Option Nat
  t0 : Option Nat
  t0Receipt : Option Nat
  shipBus : ShipBus
  chargerDraw : Nat
  deriving DecidableEq, Repr

/-! ### TBC, chapter 8, with the claim unit's fields of a peer entry -/

/-- The conditions of the CAN interface (R128, R142). -/
inductive CanState where
  | off | errorActive | errorPassive | busOff | listening
  deriving DecidableEq, Repr

/-- The kinds of a bid that proposes a claim (section 12.3). -/
inductive BidKind where
  | floor | charge | topup
  deriving DecidableEq, Repr

/-- The reasons of an OBJECT (section 12.3). -/
inductive ObjectReason where
  | noRoom | stepHeld | stepEarlier
  deriving DecidableEq, Repr

/-- The kinds of frame of the terminal bus (R129). -/
inductive BusKind where
  | object | bid | stepBid | stepFree | status | query | reply | ackTrip | control
  deriving DecidableEq, Repr

/-- An own frame in the transmit queue. A STATUS takes its content when it is sent (R132). -/
inductive TxBody where
  | object (bidder serial : Nat) (reason : ObjectReason)
  | bid (serial k : Nat) (kind : BidKind)
  | stepBid (serial : Nat)
  | stepFree
  | status
  | reply (data : List Byte)
  deriving DecidableEq, Repr

/-- A queued frame with its queue timer (R138). -/
structure TxFrame where
  body : TxBody
  timer : Timer
  deriving DecidableEq, Repr

/-- The own frame whose transmission has been attempted, with the data that the attempt carries, and whether a change has
been presented since that a STATUS in its attempt does not carry (R132). -/
structure Attempt where
  body : TxBody
  data : List Byte
  again : Bool
  deriving DecidableEq, Repr

/-- A frame as it stands on the wire. -/
structure WireFrame where
  ident : Nat
  data : List Byte
  deriving DecidableEq, Repr

/-- A peer's open bid (R150), with the ms left to its window end. -/
structure OpenBid where
  serial : Nat
  k : Nat
  kind : BidKind
  objected : Bool
  left : Nat
  deriving DecidableEq, Repr

/-- An entry of the peer table (section 8.4). `stepHold` is the start of the recorded step hold, in ms of running
time. -/
structure Peer where
  berth : Nat
  live : Bool
  code : Option Nat
  startFlag : Bool
  floorPending : Bool
  stepFlag : Bool
  k : Nat
  floor : Nat
  cd : Nat
  uq : Nat
  age : Nat
  bid : Option OpenBid
  stepHold : Option Nat
  deriving DecidableEq, Repr

/-- What the bus controller holds. The peer table is kept in rising order of berth number; a frame in its attempt stays in
the queue, unless BUS-LOST has withdrawn it (R138). -/
structure Tbc where
  can : CanState
  txErr : Nat
  rxErr : Nat
  queue : List TxFrame
  attempt : Option Attempt
  lastSent : Option WireFrame
  period : Timer
  busLost : Bool
  duplicate : Bool
  peers : List Peer
  deriving DecidableEq, Repr

/-! ### CLU, chapter 9 -/

/-- The kind of the own bid: STEP, or one that proposes a claim. -/
inductive OwnKind where
  | step
  | claim (kind : BidKind)
  deriving DecidableEq, Repr

/-- The one own bid outstanding; `window` is idle in stage QUEUED and runs in stage OPEN (R147). -/
structure OwnBid where
  kind : OwnKind
  serial : Nat
  k : Nat
  window : Timer
  deriving DecidableEq, Repr

/-- A peer's open step bid (R157). -/
structure StepBidRec where
  serial : Nat
  left : Nat
  objected : Bool
  deriving DecidableEq, Repr

/-- A record of the step list (R157). -/
structure StepRec where
  berth : Nat
  bid : Option StepBidRec
  hold : Option Nat
  deriving DecidableEq, Repr

/-- What the claim unit holds (section 9.1). `floorReq` is the age in ms of a standing floor request; `chargeWish`
the raise target that waits (R153). -/
structure Clu where
  kf : Nat
  kc : Nat
  floorReq : Option Nat
  budgetWait : Bool
  pendingFloor : Option Nat
  pendingCeiling : Option Nat
  grace : Timer
  lowRun : Nat
  bid : Option OwnBid
  nextSerial : Nat
  backoff : Timer
  topup : Timer
  draws : List Nat
  chargeWish : Option Nat
  stepReq : Bool
  stepHeld : Bool
  stepList : List StepRec
  deriving DecidableEq, Repr

/-! ### SHC, chapter 10 -/

/-- The decision of a share pass (R169). -/
inductive Decision where
  | none
  | noChange
  | lower (target : Nat)
  | raise (k : Nat)
  deriving DecidableEq, Repr

/-- What the share calculator holds (section 10.1). -/
structure Shc where
  fr : Nat
  t : Option Nat
  u : Nat
  uq : Nat
  cd : Nat
  pool : Int
  tc : Nat
  decision : Decision
  energy : Nat
  subAcc : Nat
  pass : Timer
  deriving DecidableEq, Repr

/-! ### PNL, ATU and CFL, chapter 11 -/

/-- The condition of a button validator (section 11.1). -/
inductive ButtonState where
  | idle | settling | held | lockedOut
  deriving DecidableEq, Repr

/-- A button validator: its condition, its settle and let-go counts, the running time in ms at which the steady press
began, and whether the hold report of R173 has been made for this press. -/
structure Validator where
  state : ButtonState
  settle : Timer
  letgo : Timer
  since : Nat
  reported : Bool
  deriving DecidableEq, Repr

/-- What the panel interface holds. `clock` counts the pattern clock's 125 ms phases, 0 to 7. -/
structure Pnl where
  connect : Validator
  release : Validator
  ack : Validator
  clock : Nat
  clockTimer : Timer
  flash : Timer
  flashToggle : Timer
  flashLit : Bool
  deriving DecidableEq, Repr

/-- The attention statuses of section 11.3. -/
inductive Status where
  | tripLatched | lockout | masked | budgetWait | linkLost | busLost | cableLive | duplicate | resultWaiting
  deriving DecidableEq, Repr

/-- What the attention unit holds: the status set, the sources it last saw present, the pulse. -/
structure Atu where
  statuses : List Status
  present : List Status
  pulse : Timer
  deriving DecidableEq, Repr

/-- The configured figures (section 12.5). -/
structure Figures where
  np : Nat
  fn : Nat
  vn : Nat
  b : Nat
  m : Nat
  r : Nat
  allowClosed : Bool
  allowOpen : Bool
  parallelLimit : Nat
  releaseDelay : Nat
  n : Nat
  tClose : Nat
  vDiff : Nat
  slip : Nat
  angle : Nat
  residual : Nat
  overcurrent : Nat
  reversePower : Nat
  grace : Nat
  solitary : Bool
  pulseMode : Bool
  enable : BitVec 16
  deriving DecidableEq, Repr

/-- Where start-up stands: RESET asserted, configuration loading, CONFIG-FAULT, or a successful load behind it. -/
inductive Stage where
  | reset | loading | configFault | running
  deriving DecidableEq, Repr

/-- What the configuration loader holds. `external` says that the present start began with an external reset. -/
structure Cfl where
  stage : Stage
  external : Bool
  berth : Nat
  figs : Figures
  census : Timer
  deriving DecidableEq, Repr

/-- The filtered levels of the input lines (section 1.6): true is made, ENGAGED, passing, pressed, or an open chain. -/
structure Pins where
  pilot : Four Bool
  lfb : Four Bool
  earthchk : Bool
  posc : Bool
  poso : Bool
  auxc : Bool
  auxo : Bool
  eStop : Bool
  connect : Bool
  release : Bool
  ack : Bool
  deriving DecidableEq, Repr

/-- The levels of the output lines (section 1.6). An undriven latch output is `none`; `shipFrame` is the frame in
transmission on SLTXA and SLTXB. -/
structure Lines where
  latch : Four (Option Bool)
  eswClose : Bool
  eswOpen : Bool
  close : Bool
  hold : Bool
  trip : Bool
  upstream : Bool
  lampShore : Bool
  lampPlugs : Bool
  lampTrip : Bool
  lampWait : Bool
  attention : Bool
  shipFrame : Option (List Byte)
  deriving DecidableEq, Repr

/-! ### Hand-offs between blocks -/

/-- What one block hands to another within one command. Each constructor's name begins with the receiving block. -/
inductive Handoff where
  | psmEngage | psmRelease | psmAwaitDead | psmLive
  | esdOpen | esdClose | esdWithdraw
  | bkdOpen | bkdTrip | bkdRetest | bkdClose | bkdSlot (held : Bool) | bkdSeq (old new : SeqState)
  | ptuOnset (source : Source) | ptuCondition (source : Source) | ptuBreaker (state : BreakerState)
  | ptuSeq (old new : SeqState)
  | spvSeq (new : SeqState)
  | sycSeq (new : SeqState) | sycReady
  | csqNotice (source : Source) | csqBreaker (state : BreakerState) | csqCloseAccepted | csqCloseFailed
  | csqAntiPumpEnded | csqLatchesEngaged | csqLatchFail | csqPlugDisturbed | csqLatchesReleased | csqSwitch
  | csqFloorHeld | csqSlotHeld | csqPermit | csqPermitWithdrawn | csqDeadConfirmed | csqDeadWithdrawn | csqNegative
  | csqShoreLoss | csqLinkLoss | csqEntered (state : SeqState)
  | slcPlug (made : Bool) | slcOrder (msg : ShipMsg) | slcCeiling
  | tbcOrder (body : TxBody) | tbcStatus
  | cluFloor | cluWithdrawFloor | cluStep | cluWithdrawStep | cluFreeStep | cluRelease | cluAttempt
  | cluDecision (d : Decision) | cluBusLost | cluDuplicate | cluCompleted (body : TxBody)
  | shcSeq (old new : SeqState) | shcFloor | shcPass
  | pnlRefused
  | atuSources
  deriving DecidableEq, Repr

end Sys2Proof.Machine
end

