-- ==== Sys2Proof/Machine/ResetValues.lean ====
section
/-!
DEFINITION. The value each block takes from the application of supply (R10, R17, R25, R33, R67, R80, R93, R111, R127,
R143, R161, R171, R172, R175, R177). The values an external reset keeps are put back by the meaning of RESET_ASSERTED
(Machine/StartUp). Items for which the manual gives no value are named in log entry 1.
-/

namespace Sys2Proof.Machine

/-- A plug before the load: pilot OPEN, timer idle, latch undriven (R10). -/
def Plug.atReset : Plug := ⟨.opened, none, false, false⟩

/-- R10: LIVE set, DEAD-1S clear, latches undriven; the rest is taken at the end of the load. -/
def Psm.atReset : Psm :=
  { plugs := ⟨Plug.atReset, Plug.atReset, Plug.atReset, Plug.atReset⟩, driven := false, earthPassing := false,
    setState := .empty, engage := none, releasePending := false, live := true, dead1s := false, deadTimer := none,
    lossWhileLive := false }

/-- R17: both drives released, no request; the state is decoded at the end of the load. -/
def Esd.atReset : Esd :=
  { state := .moving, dir := .none, driving := false, travel := none, settle := none, request := .none }

/-- R25. -/
def Mtp.atReset : Mtp :=
  { last := none, armed := false, latch := false, miss := 0, lost := false, recovery := 0, check := none }

/-- R33. -/
def Spv.atReset : Spv := { stability := 0, proven := false, badRun := 0, recovery := 0, shoreLoss := false }

/-- R93. -/
def Syc.atReset : Syc :=
  { watch := .idle, good := 0, permit := false, dead := 0, confirm := false, negative := 0, lastDf := none,
    lastPred := none, verdict := .idle }

/-- R80: HOLD and CLOSE off, a TRIP pulse of 100 ms running, state OPENING with no supervision, UPSTREAM-TRIP released
(power-on). -/
def Bkd.atReset : Bkd :=
  { state := .opening, reading := .between, hold := false, upstream := false, closePulse := none,
    tripPulse := some 100, closeSup := none, openSup := none, contactWatch := none, antiPump := none,
    refusedClose := false, slotHeld := false }

/-- R111. DESIGN CHOICE (log entry 58): before the first set the levels are those of a K of 0. -/
def Ptu.atReset : Ptu :=
  { latched := [], firstOut := none, firstOutTime := none, earlierRun := false, age := 0, eStop := false,
    earthRun := 0, earthFault := false, overcurrentRun := 0, reverseRun := 0, acc := 0, levelK := 0, overArmed := true,
    notice := false }

/-- R67, power-on: START, the mask set, everything else idle, zero, none or empty. -/
def Csq.atReset : Csq :=
  { state := .start, sub := .none, proc := none, mode := .none, mask := true, retry := 0, closeFail := 0,
    phase := none, releaseDelay := none, slotTimer := none, unloadRun := 0, quiet := none, isoWatch := none,
    cableLive := false, peak := 0, shoreEntry := none, tripIso := false, log := [], seq := 0, marker := none,
    clockMs := 0 }

/-- R127: link DOWN, timers idle, receiver hunting, ship figures cleared as R121 states. -/
def Slc.atReset : Slc :=
  { link := .down, silence := none, hello := none, ceiling := none, linkHold := none, holdExpired := false,
    incompat := .none, lastCeiling := none, queue := [], sending := none, rx := .hunting, gap := none,
    shipNumber := none, offersClosed := false, offersOpen := false, h := 0, c := 0, e := none, t0 := none,
    t0Receipt := none, shipBus := .unknown, chargerDraw := 0 }

/-- R143: interface OFF, queue and peer table empty. -/
def Tbc.atReset : Tbc :=
  { can := .off, txErr := 0, rxErr := 0, queue := [], attempt := none, lastSent := none, period := none,
    busLost := false, duplicate := false, peers := [] }

/-- R161. -/
def Clu.atReset : Clu :=
  { kf := 0, kc := 0, floorReq := none, budgetWait := false, pendingFloor := none, pendingCeiling := none,
    grace := none, lowRun := 0, bid := none, nextSerial := 0, backoff := none, topup := none, draws := [],
    chargeWish := none, stepReq := false, stepHeld := false, stepList := [] }

/-- R171. Fr is taken at the end of the load. -/
def Shc.atReset : Shc :=
  { fr := 10, t := none, u := 0, uq := 0, cd := 0, pool := 0, tc := 0, decision := .none, energy := 0, subAcc := 0,
    pass := none }

/-- R172: a validator held in IDLE. -/
def Validator.atReset : Validator := ⟨.idle, none, none, 0, false⟩

/-- R172, R175: validators IDLE, no flash. -/
def Pnl.atReset : Pnl :=
  { connect := Validator.atReset, release := Validator.atReset, ack := Validator.atReset, clock := 0,
    clockTimer := none, flash := none, flashToggle := none, flashLit := false }

/-- R176, R177. -/
def Atu.atReset : Atu := { statuses := [], present := [], pulse := none }

/-- The figures before a load: the defaults the chapters give, else the least value of the range of section 12.5. No
rule reads them before the load (log entry 1). -/
def Figures.atReset : Figures :=
  { np := 1, fn := 50000, vn := 230, b := 10, m := 0, r := 100, allowClosed := true, allowOpen := true,
    parallelLimit := 30, releaseDelay := 300, n := 250, tClose := 80, vDiff := 50, slip := 200, angle := 100,
    residual := 300, overcurrent := 2500, reversePower := 100, grace := 10, solitary := false, pulseMode := false,
    enable := 0 }

/-- R180: loading begins once supply is established. -/
def Cfl.atReset : Cfl :=
  { stage := .loading, external := false, berth := 0, figs := Figures.atReset, census := none }

/-- The input lines before any change has been seen (log entry 1). -/
def Pins.atReset : Pins :=
  { pilot := ⟨false, false, false, false⟩, lfb := ⟨false, false, false, false⟩, earthchk := false, posc := false,
    poso := false, auxc := false, auxo := false, eStop := false, connect := false, release := false, ack := false }

/-- The output lines from the application of supply: TRIP asserted, all else released, dark or undriven (R10, R17,
R80, R127, R175, R177). -/
def Lines.atReset : Lines :=
  { latch := ⟨none, none, none, none⟩, eswClose := false, eswOpen := false, close := false, hold := false,
    trip := true, upstream := false, lampShore := false, lampPlugs := false, lampTrip := false, lampWait := false,
    attention := false, shipFrame := none }

end Sys2Proof.Machine
end

