-- ==== Sys2Proof/Machine/State.lean ====
section
/-!
DEFINITION. The whole state of the part, one field for each functional block of section 1.3, with the filtered input
lines, the output lines and the queue of commands that wait. Plain data throughout.
-/

namespace Sys2Proof.Machine

/-- The state of the part. `pending` is the queue of commands waiting, first in, first out. -/
structure State where
  pins : Pins
  cfl : Cfl
  psm : Psm
  esd : Esd
  mtp : Mtp
  spv : Spv
  csq : Csq
  bkd : Bkd
  syc : Syc
  ptu : Ptu
  slc : Slc
  tbc : Tbc
  clu : Clu
  shc : Shc
  pnl : Pnl
  atu : Atu
  out : Lines
  pending : List Instr
  deriving DecidableEq, Repr

/-- The faults of a step: none. The manual gives every command of the table an effect, so no meaning stops the
machine and this type has no constructor. -/
inductive Fault where
  deriving DecidableEq, Repr

/-- The refusals of a step. -/
inductive Refusal where
  /-- Raised by an arm of `exec` that has no meaning yet; no arm raises it. Safe: the machine stops by name. -/
  | notModelled (mnemonic : String)
  deriving DecidableEq, Repr

/-- The machine right after the application of supply: every block at its power-on value, configuration loading
begun, no command waiting. -/
def State.reset : State :=
  { pins := Pins.atReset, cfl := Cfl.atReset, psm := Psm.atReset, esd := Esd.atReset, mtp := Mtp.atReset,
    spv := Spv.atReset, csq := Csq.atReset, bkd := Bkd.atReset, syc := Syc.atReset, ptu := Ptu.atReset,
    slc := Slc.atReset, tbc := Tbc.atReset, clu := Clu.atReset, shc := Shc.atReset, pnl := Pnl.atReset,
    atu := Atu.atReset, out := Lines.atReset, pending := [] }

end Sys2Proof.Machine
end

