-- ==== Sys2Proof/Machine/Ops.lean ====
section
/-!
DEFINITION. The operations the blocks share: plug sets, byte order and CRC (R183, R113, R180), rounding (section 1.7),
running time, the setters of State, and the pair of a state with the hand-offs a block makes.
-/

namespace Sys2Proof.Machine

/-! ### Plug positions -/

/-- The item of plug `i`. -/
def Four.get {α : Type} (f : Four α) : PlugNo → α
  | .p1 => f.p1
  | .p2 => f.p2
  | .p3 => f.p3
  | .p4 => f.p4

/-- The items with that of plug `i` replaced. -/
def Four.set {α : Type} (f : Four α) (i : PlugNo) (a : α) : Four α :=
  match i with
  | .p1 => { f with p1 := a }
  | .p2 => { f with p2 := a }
  | .p3 => { f with p3 := a }
  | .p4 => { f with p4 := a }

/-- The items made from those of two such families. -/
def Four.zip {α β γ : Type} (g : α → β → γ) (f : Four α) (h : Four β) : Four γ :=
  ⟨g f.p1 h.p1, g f.p2 h.p2, g f.p3 h.p3, g f.p4 h.p4⟩

/-- The number of a plug position. -/
def plugNumber : PlugNo → Nat
  | .p1 => 1
  | .p2 => 2
  | .p3 => 3
  | .p4 => 4

/-- Plugs 1 to Np form the plug set (section 1.1 of chapter 1). -/
def inPlugSet (np : Nat) (i : PlugNo) : Bool := plugNumber i ≤ np

/-- Every plug of the set has the property. -/
def Four.allIn {α : Type} (np : Nat) (g : α → Bool) (f : Four α) : Bool :=
  (!inPlugSet np .p1 || g f.p1) && (!inPlugSet np .p2 || g f.p2) && (!inPlugSet np .p3 || g f.p3) &&
    (!inPlugSet np .p4 || g f.p4)

/-- Some plug of the set has the property. -/
def Four.anyIn {α : Type} (np : Nat) (g : α → Bool) (f : Four α) : Bool :=
  (inPlugSet np .p1 && g f.p1) || (inPlugSet np .p2 && g f.p2) || (inPlugSet np .p3 && g f.p3) ||
    (inPlugSet np .p4 && g f.p4)

/-- The items of the plugs of the set, in their order. -/
def Four.mapIn {α : Type} (np : Nat) (g : PlugNo → α → α) (f : Four α) : Four α :=
  ⟨if inPlugSet np .p1 then g .p1 f.p1 else f.p1, if inPlugSet np .p2 then g .p2 f.p2 else f.p2,
    if inPlugSet np .p3 then g .p3 f.p3 else f.p3, if inPlugSet np .p4 then g .p4 f.p4 else f.p4⟩

/-- Every phase value has the property. -/
def Three.all (g : Nat → Bool) (t : Three) : Bool := g t.l1 && g t.l2 && g t.l3

/-- Some phase value has the property. -/
def Three.any (g : Nat → Bool) (t : Three) : Bool := g t.l1 || g t.l2 || g t.l3

/-- Each phase value changed alike. -/
def Three.map (g : Nat → Nat) (t : Three) : Three := ⟨g t.l1, g t.l2, g t.l3⟩

/-! ### Bytes, most significant first (R183) -/

/-- The unsigned number that bytes spell. -/
def beNat (bs : List Byte) : Nat := bs.foldl (fun n b => n * 256 + b.toNat) 0

/-- The two's complement number that two bytes spell. -/
def signed16 (n : Nat) : Int := if n < 32768 then (n : Int) else (n : Int) - 65536

/-- The `width` bytes of `data` from byte `start` on, as an unsigned number. -/
def fieldNat (data : List Byte) (start width : Nat) : Nat := beNat ((data.drop start).take width)

/-- The `width` bytes that carry `n`. -/
def beBytes : (width n : Nat) → List Byte
  | 0, _ => []
  | w + 1, n => beBytes w (n / 256) ++ [BitVec.ofNat 8 (n % 256)]

/-- The `width` bytes that carry a signed number in two's complement. -/
def beBytesInt (width : Nat) (i : Int) : List Byte := beBytes width (i % (256 ^ width : Nat)).toNat

/-- R183: an absent unsigned field carries all ones. -/
def beBytesOpt (width : Nat) (n : Option Nat) : List Byte := beBytes width (n.getD (256 ^ width - 1))

/-- R183: an absent signed field of two bytes carries the most negative value. -/
def beBytesIntOpt (i : Option Int) : List Byte := beBytesInt 2 (i.getD (-32768))

/-- One bit of the CRC register shifted out. -/
def crcShift (crc : BitVec 16) : BitVec 16 :=
  if crc.getLsbD 15 then (crc <<< 1) ^^^ 0x1021#16 else crc <<< 1

/-- The CRC register after one more byte, from its most significant bit. -/
def crcByte (crc : BitVec 16) (b : Byte) : BitVec 16 :=
  let c0 := crc ^^^ (b.zeroExtend 16 <<< 8)
  crcShift (crcShift (crcShift (crcShift (crcShift (crcShift (crcShift (crcShift c0)))))))

/-- CRC-16, polynomial 0x1021, initial value 0xFFFF, no reflection, no final inversion (R113, R180). -/
def crc16 (bs : List Byte) : BitVec 16 := bs.foldl crcByte 0xFFFF#16

/-- The two CRC bytes, in the order of R183. -/
def crcBytes (bs : List Byte) : List Byte := beBytes 2 (crc16 bs).toNat

/-! ### Rounding and ranges (section 1.7) -/

/-- Rounded down to a multiple of 10. -/
def down10 (n : Nat) : Nat := n / 10 * 10

/-- The smallest multiple of 10 at or above the quotient `n / d`. -/
def up10Div (n d : Nat) : Nat := (n + 10 * d - 1) / (10 * d) * 10

/-- The quotient rounded up. -/
def divUp (n d : Nat) : Nat := (n + d - 1) / d

/-- Brought into −1799 to +1800 by whole turns. -/
def wrapAngle (a : Int) : Int := (a + 1799) % 3600 - 1799

/-! ### States and hand-offs -/

/-- A state and the hand-offs that a block makes with it, in the order in which they are carried out. -/
abbrev Out := State × List Handoff

/-- One more part of a block's answer: its hand-offs follow those already made. -/
def Out.andThen (o : Out) (f : State → Out) : Out := ((f o.1).1, o.2 ++ (f o.1).2)

/-- More hand-offs. -/
def Out.emit (o : Out) (hs : List Handoff) : Out := (o.1, o.2 ++ hs)

def State.setPins (s : State) (v : Pins) : State := { s with pins := v }
def State.setCfl (s : State) (v : Cfl) : State := { s with cfl := v }
def State.setPsm (s : State) (v : Psm) : State := { s with psm := v }
def State.setEsd (s : State) (v : Esd) : State := { s with esd := v }
def State.setMtp (s : State) (v : Mtp) : State := { s with mtp := v }
def State.setSpv (s : State) (v : Spv) : State := { s with spv := v }
def State.setCsq (s : State) (v : Csq) : State := { s with csq := v }
def State.setBkd (s : State) (v : Bkd) : State := { s with bkd := v }
def State.setSyc (s : State) (v : Syc) : State := { s with syc := v }
def State.setPtu (s : State) (v : Ptu) : State := { s with ptu := v }
def State.setSlc (s : State) (v : Slc) : State := { s with slc := v }
def State.setTbc (s : State) (v : Tbc) : State := { s with tbc := v }
def State.setClu (s : State) (v : Clu) : State := { s with clu := v }
def State.setShc (s : State) (v : Shc) : State := { s with shc := v }
def State.setPnl (s : State) (v : Pnl) : State := { s with pnl := v }
def State.setAtu (s : State) (v : Atu) : State := { s with atu := v }
def State.setOut (s : State) (v : Lines) : State := { s with out := v }
def State.setPending (s : State) (v : List Instr) : State := { s with pending := v }

/-! ### Figures every block reads -/

/-- A successful load is behind: the census or a working state (R180, R181). -/
def State.running (s : State) : Bool := s.cfl.stage == .running

/-- The configured figures. -/
abbrev State.figs (s : State) : Figures := s.cfl.figs

/-- The own berth number. -/
abbrev State.own (s : State) : Nat := s.cfl.berth

/-- The capacity all claims share: B − M. -/
def State.avail (s : State) : Nat := s.figs.b - s.figs.m

/-- The published claim K = Kf + Kc (R144). -/
def Clu.claim (c : Clu) : Nat := c.kf + c.kc

/-- Running time, in whole seconds since the end of the last load. DESIGN CHOICE (log entry 17): past the range of
section 3.1 it is a free value. -/
def Csq.runTime (c : Csq) : Nat :=
  if c.clockMs / 1000 < 4294967296 then c.clockMs / 1000 else (Config.runTimePast (c.clockMs / 1000)).toNat

/-- The whole seconds from running time `start` to running time `now`, both within 32 bits. -/
def secondsSince (now start : Nat) : Nat := (now + 4294967296 - start) % 4294967296

/-- Is the timer running? -/
def Timer.runs (t : Timer) : Bool := t.isSome

end Sys2Proof.Machine
end

