-- ==== Sys2Proof/Machine/Formats.lean ====
section
/-!
DEFINITION. The code tables of section 12.6 and the set encodings of section 12.3.
-/

namespace Sys2Proof.Machine

/-! ### Trip sources -/

/-- The number of a source, section 12.6. -/
def Source.number : Source → Nat
  | .eStop => 1
  | .pilotLoss => 2
  | .earthContinuity => 3
  | .earthFault => 4
  | .overcurrent => 5
  | .overload => 6
  | .reversePower => 7
  | .shoreLoss => 8
  | .meteringLost => 9
  | .breakerDrop => 10
  | .breakerFail => 11
  | .unexpectedClose => 12
  | .earthingSwitch => 13

/-- The fatal sources of section 6.1. -/
def Source.fatal : Source → Bool
  | .earthFault | .overcurrent | .breakerFail | .unexpectedClose | .earthingSwitch => true
  | .eStop | .pilotLoss | .earthContinuity | .overload | .reversePower | .shoreLoss | .meteringLost
  | .breakerDrop => false

/-- The sources of the level clear class of section 6.1. -/
def Source.level : Source → Bool
  | .eStop | .pilotLoss | .earthContinuity | .earthFault | .shoreLoss | .meteringLost | .earthingSwitch => true
  | .overcurrent | .overload | .reversePower | .breakerDrop | .breakerFail | .unexpectedClose => false

/-- All thirteen sources, in the order of their numbers. -/
def Source.all : List Source :=
  [.eStop, .pilotLoss, .earthContinuity, .earthFault, .overcurrent, .overload, .reversePower, .shoreLoss,
    .meteringLost, .breakerDrop, .breakerFail, .unexpectedClose, .earthingSwitch]

/-- A source set on the wire: bit (n − 1) for the source numbered n. -/
def sourceBits (l : List Source) : Nat :=
  Source.all.foldl (fun n x => if l.contains x then n + 2 ^ (x.number - 1) else n) 0

/-- The sources a set on the wire names; a bit of no source is fill. -/
def sourcesOf (w : BitVec 16) : List Source := Source.all.filter fun x => w.getLsbD (x.number - 1)

/-! ### Attention statuses -/

/-- The bit of a status, section 12.6. -/
def Status.bit : Status → Nat
  | .tripLatched => 0
  | .lockout => 1
  | .masked => 2
  | .budgetWait => 3
  | .linkLost => 4
  | .busLost => 5
  | .cableLive => 6
  | .duplicate => 7
  | .resultWaiting => 8

/-- All nine statuses, in the order of their bits. -/
def Status.all : List Status :=
  [.tripLatched, .lockout, .masked, .budgetWait, .linkLost, .busLost, .cableLive, .duplicate, .resultWaiting]

/-- A status set on the wire. -/
def statusBits (l : List Status) : Nat := Status.all.foldl (fun n x => if l.contains x then n + 2 ^ x.bit else n) 0

/-- Does a status set on the wire name this status? -/
def Status.named (w : BitVec 16) (x : Status) : Bool := w.getLsbD x.bit

/-! ### Other codes -/

/-- The state codes of section 3.1. -/
def SeqState.code : SeqState → Nat
  | .start => 0
  | .vacant => 1
  | .hooked => 2
  | .proving => 3
  | .ready => 4
  | .syncing => 5
  | .deadwait => 6
  | .parallel => 7
  | .shore => 8
  | .releaseWait => 9
  | .handback => 10
  | .unloading => 11
  | .isolating => 12
  | .lockout => 13

/-- The cause codes of section 12.6. -/
def Cause.code : Cause → Nat
  | .none => 0
  | .trip x => x.number
  | .latchFail => 32
  | .plugDisturbed => 33
  | .shoreUnstable => 34
  | .budget => 35
  | .switchTimeout => 36
  | .stepBusy => 37
  | .shipTimeout => 38
  | .syncTimeout => 39
  | .deadTimeout => 40
  | .liveBus => 41
  | .phaseSequence => 42
  | .closeFail => 43
  | .parallelTimeout => 44
  | .linkLost => 45
  | .operator => 46
  | .shipAbandon => 47
  | .releaseExpired => 48
  | .unloadTimeout => 49
  | .hardRelease => 50
  | .masked => 64
  | .retries => 65
  | .tripLatched => 66
  | .mode => 67
  | .sequence => 68

def RecordKind.code : RecordKind → Nat
  | .transferIn => 1
  | .handback => 2
  | .fallback => 3

def Ending.code : Ending → Nat
  | .completed => 1
  | .forced => 2
  | .aborted => 3
  | .failed => 4
  | .superseded => 5
  | .reset => 6

def Mode.code : Mode → Nat
  | .none => 0
  | .closed => 1
  | .opened => 2

/-- The mode a mode byte of the ship names; no defined code is none (R122). -/
def Mode.ofByte (b : Byte) : Mode := if b = 1#8 then .closed else if b = 2#8 then .opened else .none

def SubPhase.code : SubPhase → Nat
  | .none => 0
  | .awaitingReady => 1
  | .awaitingPermission => 2
  | .closing => 3

def LinkState.code : LinkState → Nat
  | .down => 0
  | .waiting => 1
  | .up => 2
  | .incompatible => 3
  | .lost => 4

def Incompat.code : Incompat → Nat
  | .none => 0
  | .frequency => 1
  | .voltage => 2

def BreakerState.code : BreakerState → Nat
  | .opened => 0
  | .closing => 1
  | .closed => 2
  | .opening => 3
  | .failed => 4

def Contact.code : Contact → Nat
  | .opened => 0
  | .closed => 1
  | .between => 2
  | .invalid => 3

def EswState.code : EswState → Nat
  | .opened => 0
  | .closed => 1
  | .moving => 2
  | .fault => 3

def SetState.code : SetState → Nat
  | .empty => 0
  | .partSet => 1
  | .complete => 2

def Verdict.code : Verdict → Nat
  | .idle => 0
  | .noMetering => 1
  | .none => 2
  | .clamp => 3
  | .shipVoltage => 4
  | .difference => 5
  | .slip => 6
  | .sequence => 7
  | .angle => 8
  | .dead => 9
  | .live => 10

def CanState.code : CanState → Nat
  | .off => 0
  | .errorActive => 1
  | .errorPassive => 2
  | .busOff => 3
  | .listening => 4

def Decision.code : Decision → Nat
  | .none => 0
  | .noChange => 1
  | .lower _ => 2
  | .raise _ => 3

def ShipBus.code : ShipBus → Nat
  | .unknown => 0
  | .generators => 1
  | .parallel => 2
  | .shore => 3
  | .dead => 4

/-- The ship bus state a byte names; no defined code is UNKNOWN (R120). -/
def ShipBus.ofCode : Nat → ShipBus
  | 1 => .generators
  | 2 => .parallel
  | 3 => .shore
  | 4 => .dead
  | _ => .unknown

def BidKind.code : BidKind → Nat
  | .floor => 1
  | .charge => 2
  | .topup => 3

/-- The kind a BID names; an undefined kind is taken as CHARGE (R183). -/
def BidKind.ofCode : Nat → BidKind
  | 1 => .floor
  | 3 => .topup
  | _ => .charge

def ObjectReason.code : ObjectReason → Nat
  | .noRoom => 1
  | .stepHeld => 2
  | .stepEarlier => 3

/-- The phase sequence a two-bit code names; a code of 3 is taken as NONE (R183). -/
def PhaseSeq.ofCode : Nat → PhaseSeq
  | 1 => .positive
  | 2 => .negative
  | _ => .none

/-- The kind codes (R129). -/
def BusKind.code : BusKind → Nat
  | .object => 2
  | .bid => 4
  | .stepBid => 5
  | .stepFree => 6
  | .status => 8
  | .query => 12
  | .reply => 13
  | .ackTrip => 14
  | .control => 15

/-- The kind of a kind code (R129); none for an undefined one. -/
def BusKind.ofCode : Nat → Option BusKind
  | 2 => some .object
  | 4 => some .bid
  | 5 => some .stepBid
  | 6 => some .stepFree
  | 8 => some .status
  | 12 => some .query
  | 13 => some .reply
  | 14 => some .ackTrip
  | 15 => some .control
  | _ => none

/-- The kind of an own frame. -/
def TxBody.kind : TxBody → BusKind
  | .object _ _ _ => .object
  | .bid _ _ _ => .bid
  | .stepBid _ => .stepBid
  | .stepFree => .stepFree
  | .status => .status
  | .reply _ => .reply

/-- The kind code of an own frame. -/
def TxBody.kindCode (b : TxBody) : Nat := b.kind.code

/-- R129: the identifier is the kind code multiplied by 32 plus the berth number of the sender. -/
def identifier (kind sender : Nat) : Nat := kind * 32 + sender

end Sys2Proof.Machine
end

