-- ==== Sys2Proof/Machine/PlugSet.lean ====
section
/-!
DEFINITION. The plug set monitor (PSM): pilot validation, latches, set state, live and dead cable (R1 to R10).
-/

namespace Sys2Proof.Machine

/-! ### Derived conditions -/

/-- R3: the set state, derived afresh from the pilot states and the earth check result. -/
def Psm.derivedSet (np : Nat) (p : Psm) : SetState :=
  if !p.plugs.anyIn np (fun q => q.pilot == .made) then .empty
  else if p.plugs.allIn np (fun q => q.pilot == .made) && p.earthPassing then .complete
  else .partSet

/-- R3: the set is COMPLETE and every latch of the set is confirmed. -/
def State.setHeld (s : State) : Bool :=
  s.psm.setState == .complete && s.psm.plugs.allIn s.figs.np (fun q => q.confirmed)

/-- Every latch of the set is commanded FREE (R6, R39). -/
def State.latchesFree (s : State) : Bool := s.psm.plugs.allIn s.figs.np (fun q => !q.engaged)

/-- R9: the EARTH-CONTINUITY condition is present. -/
def Psm.earthContinuity (p : Psm) : Bool := !p.earthPassing && p.live

/-- Plug 1 is MADE (R3, R115). -/
def Psm.plugOneMade (p : Psm) : Bool := p.plugs.p1.pilot == .made

/-- R6: the three conditions under which a latch release is commanded. -/
def State.releaseInterlock (s : State) : Bool := s.esd.state == .closed && !s.bkd.hold && s.psm.dead1s

/-- R26: each ship-side voltage is below 100 ‰. -/
def ReadingSet.shipDead (r : ReadingSet) : Bool := r.shipV.all (· < 100)

/-- R26: some ship-side voltage is 100 ‰ or more; false before the first set (R25). -/
def Mtp.shipLive (m : Mtp) : Bool := m.last.any fun r => !r.shipDead

/-- R7, R10: the three conditions that set LIVE, and that no set has been accepted yet. -/
def State.cableLive (s : State) : Bool :=
  s.bkd.state != .opened || s.mtp.shipLive || s.mtp.lost || s.mtp.last.isNone

/-- The sequencer states in which a disturbance on a dead cable is reported (R8, R9). -/
def SeqState.disturbable : SeqState → Bool
  | .proving | .ready | .syncing | .deadwait => true
  | .start | .vacant | .hooked | .parallel | .shore | .releaseWait | .handback | .unloading | .isolating
  | .lockout => false

/-! ### Taking new values -/

/-- The PSM takes the values `p`: the set state is derived afresh (R3), a set that is not COMPLETE ends a running
engage operation (R5), LOSS-WHILE-LIVE goes when LIVE is clear (R8). It then hands on what has changed: a condition's
onset to the protection unit, the reports given, a change of set-held to the breaker drive (R70), a change of plug 1 to
the ship link controller (R115). DESIGN CHOICE (log entry 32): in this order. -/
def Psm.take (p : Psm) (reports : List Handoff) (s : State) : Out :=
  let set := p.derivedSet s.figs.np
  let q := { p with
    setState := set
    engage := if set == .complete then p.engage else none
    lossWhileLive := p.lossWhileLive && p.live }
  let t := s.setPsm q
  (t,
    (if q.lossWhileLive && !s.psm.lossWhileLive then [.ptuCondition .pilotLoss] else []) ++
    (if q.earthContinuity && !s.psm.earthContinuity then [.ptuCondition .earthContinuity] else []) ++
    reports ++
    (if t.setHeld != s.setHeld then [.bkdRetest] else []) ++
    (if q.plugOneMade != s.psm.plugOneMade then [.slcPlug q.plugOneMade] else []))

/-- R8: a pilot or latch loss that leaves the values `p` is classified by LIVE at that moment and by the sequencer
state. -/
def Psm.loss (p : Psm) (s : State) : Out :=
  if s.psm.live then Psm.take { p with lossWhileLive := true } [] s
  else Psm.take p (if s.csq.state.disturbable then [.csqPlugDisturbed] else []) s

/-! ### Pilots and earth check -/

/-- R1: a pilot is found made. -/
def Psm.pilotMade (i : PlugNo) (s : State) : Out :=
  let s := s.setPins { s.pins with pilot := s.pins.pilot.set i true }
  let q := s.psm.plugs.get i
  if s.running && inPlugSet s.figs.np i && q.pilot == .opened then
    (s.setPsm { s.psm with plugs := s.psm.plugs.set i { q with pilot := .validating, validation := some 2000 } }, [])
  else (s, [])

/-- R1: a pilot is found open; in MADE that is a pilot loss. -/
def Psm.pilotOpened (i : PlugNo) (s : State) : Out :=
  let s := s.setPins { s.pins with pilot := s.pins.pilot.set i false }
  let q := s.psm.plugs.get i
  let p := { s.psm with plugs := s.psm.plugs.set i { q with pilot := .opened, validation := none } }
  if s.running && inPlugSet s.figs.np i then
    match q.pilot with
    | .opened => (s, [])
    | .validating => Psm.take p [] s
    | .made => Psm.loss p s
  else (s, [])

/-- R1: the validation timer of a plug expires. -/
def Psm.validated (i : PlugNo) (s : State) : Out :=
  let q := s.psm.plugs.get i
  if q.validation.isSome then
    Psm.take { s.psm with plugs := s.psm.plugs.set i { q with pilot := .made, validation := none } } [] s
  else (s, [])

/-- R2, R9: the filtered earth check changes. -/
def Psm.earthchk (passing : Bool) (s : State) : Out :=
  let s := s.setPins { s.pins with earthchk := passing }
  if s.running then
    Psm.take { s.psm with earthPassing := passing }
      (if s.psm.earthPassing && !passing && !s.psm.live && s.csq.state.disturbable then [.csqPlugDisturbed] else []) s
  else (s, [])

/-! ### Latches -/

/-- R4, R5: the filtered feedback of a latch changes: a confirmation, which may end the engage operation, or a latch
loss. -/
def Psm.latchFeedback (i : PlugNo) (engaged : Bool) (s : State) : Out :=
  let s := s.setPins { s.pins with lfb := s.pins.lfb.set i engaged }
  let q := s.psm.plugs.get i
  if s.running && inPlugSet s.figs.np i && q.engaged then
    let plugs := s.psm.plugs.set i { q with confirmed := engaged }
    if q.confirmed && !engaged then Psm.loss { s.psm with plugs := plugs } s
    else if s.psm.engage.isSome && plugs.allIn s.figs.np (fun r => r.confirmed) then
      Psm.take { s.psm with plugs := plugs, engage := none } [.csqLatchesEngaged] s
    else Psm.take { s.psm with plugs := plugs } [] s
  else (s, [])

/-- R5, R6: an engage request; a pending release request is discarded whatever becomes of it. -/
def Psm.engageRequest (s : State) : Out :=
  let np := s.figs.np
  let s := s.setPsm { s.psm with releasePending := false }
  if s.psm.engage.isSome then (s, [])
  else if s.psm.setState != .complete then (s, [.csqLatchFail])
  else
    let plugs := s.psm.plugs.mapIn np fun i q =>
      { q with engaged := true, confirmed := q.confirmed || s.pins.lfb.get i }
    if plugs.allIn np (fun q => q.confirmed) then
      Psm.take { s.psm with plugs := plugs } [.csqLatchesEngaged] s
    else Psm.take { s.psm with plugs := plugs, engage := some 1000 } [] s

/-- R5: the engage supervision expires with a latch unconfirmed. -/
def Psm.engageExpired (s : State) : Out :=
  if s.psm.engage.isSome then (s.setPsm { s.psm with engage := none }, [.csqLatchFail]) else (s, [])

/-- R6: every latch of the set is commanded FREE, which ends a running engage operation with no report. -/
def Psm.carryOutRelease (s : State) : Out :=
  Psm.take
    { s.psm with
      plugs := s.psm.plugs.mapIn s.figs.np fun _ q => { q with engaged := false, confirmed := false }
      engage := none
      releasePending := false }
    [.csqLatchesReleased] s

/-- R182: a release request that waits for its interlock even with every latch FREE (log entry 51). -/
def Psm.awaitDead (s : State) : Out := (s.setPsm { s.psm with releasePending := true }, [])

/-- R6: a release request is answered at once, carried out at once, absorbed or kept pending. A pending one absorbs it
whatever the latches are. -/
def Psm.releaseRequest (s : State) : Out :=
  if s.latchesFree && !s.psm.releasePending then (s, [.csqLatchesReleased])
  else if s.releaseInterlock then Psm.carryOutRelease s
  else (s.setPsm { s.psm with releasePending := true }, [])

/-- Would a release request be answered with LATCHES-RELEASED at once (R6, R38)? -/
def State.releaseAtOnce (s : State) : Bool :=
  (s.latchesFree && !s.psm.releasePending) || s.releaseInterlock

/-! ### Live and dead cable -/

/-- R7: LIVE is re-evaluated. -/
def Psm.reevaluate (s : State) : Out := Psm.take { s.psm with live := s.cableLive } [] s

/-- R7: an accepted set starts or cancels the dead timer; LIVE is re-evaluated. -/
def Psm.onSet (r : ReadingSet) (s : State) : Out :=
  let p := { s.psm with live := s.cableLive }
  if r.shipDead then
    if p.deadTimer.isNone && !p.dead1s then Psm.take { p with deadTimer := some 1000 } [] s else Psm.take p [] s
  else Psm.take { p with deadTimer := none, dead1s := false } [] s

/-- R7: the onset of METERING-LOST cancels the dead timer and clears DEAD-1S. -/
def Psm.meteringOnset (s : State) : Out :=
  Psm.take { s.psm with live := s.cableLive, deadTimer := none, dead1s := false } [] s

/-- R7: the dead timer expires. -/
def Psm.deadExpired (s : State) : Out :=
  if s.psm.deadTimer.isSome then (s.setPsm { s.psm with deadTimer := none, dead1s := true }, []) else (s, [])

/-! ### Start -/

/-- R10: the values the PSM takes at the end of a successful load. -/
def Psm.atLoad (np : Nat) (pins : Pins) : Psm :=
  let plug (made fb : Bool) : Plug :=
    { pilot := if made then .validating else .opened, validation := if made then some 2000 else none,
      engaged := fb, confirmed := fb }
  let plugs : Four Plug := Four.zip plug pins.pilot pins.lfb
  let p : Psm :=
    { Psm.atReset with
      plugs := ⟨if inPlugSet np .p1 then plugs.p1 else Plug.atReset, if inPlugSet np .p2 then plugs.p2 else Plug.atReset,
        if inPlugSet np .p3 then plugs.p3 else Plug.atReset, if inPlugSet np .p4 then plugs.p4 else Plug.atReset⟩
      driven := true
      earthPassing := pins.earthchk }
  { p with setState := p.derivedSet np }

end Sys2Proof.Machine
end

