-- ==== Sys2Proof/Machine/EarthingSwitch.lean ====
section
/-!
DEFINITION. The earthing switch drive (ESD): position decoding, requests under their interlocks, travels and FAULT
(R11 to R17).
-/

namespace Sys2Proof.Machine

/-- The readings of R11. -/
inductive EswReading where
  | closed | opened | between | invalid
  deriving DecidableEq, Repr

/-- R11: the pair of position contacts decoded. -/
def eswReading (posc poso : Bool) : EswReading :=
  match posc, poso with
  | true, false => .closed
  | false, true => .opened
  | false, false => .between
  | true, true => .invalid

/-- The present reading of the position contacts. -/
def State.eswRead (s : State) : EswReading := eswReading s.pins.posc s.pins.poso

/-- Is the reading the closed or the open position? -/
def EswReading.atEnd (r : EswReading) : Bool := r == .closed || r == .opened

/-- R12: the close interlock. -/
def State.closeInterlock (s : State) : Bool := s.bkd.state == .opened && !s.bkd.hold && s.psm.dead1s

/-- R14: the interlock of the travel's direction holds. -/
def State.travelInterlock (s : State) : Bool :=
  match s.esd.dir with
  | .toOpen => s.setHeld
  | .toClosed => s.closeInterlock
  | .none => false

/-- The ESD takes the values `e`, and hands a change of the switch state to the breaker drive, which re-tests its hold
conditions (R70), and to the sequencer. -/
def Esd.take (e : Esd) (s : State) : Out :=
  (s.setEsd e, if e.state != s.esd.state then [.bkdRetest, .csqSwitch] else [])

/-- R15, R16: entry to FAULT. -/
def Esd.enterFault (s : State) : Out :=
  let e : Esd :=
    { state := .fault, dir := .none, driving := false, travel := none,
      settle := if s.eswRead.atEnd then some 1000 else none, request := .none }
  (s.setEsd e, [.bkdRetest, .ptuCondition .earthingSwitch, .csqSwitch])

/-- The switch is taken to be at rest in an end position (R11, R16). DESIGN CHOICE (log entry 47): a pending request that
the position meets is over, and one for the other position stays pending. -/
def Esd.rest (state : EswState) (e : Esd) : Esd :=
  { state := state, dir := .none, driving := false, travel := none, settle := none,
    request :=
      match state, e.request with
      | .closed, .opening => .opening
      | .opened, .closing => .closing
      | _, _ => .none }

/-- R11, R16: a filtered change of the position contacts. -/
def Esd.positions (posc poso : Bool) (s : State) : Out :=
  let s := s.setPins { s.pins with posc := posc, poso := poso }
  let e := s.esd
  if !s.running then (s, [])
  else
    match e.state, s.eswRead with
    | .fault, .closed | .fault, .opened => (s.setEsd { e with settle := some 1000 }, [])
    | .fault, .between | .fault, .invalid => (s.setEsd { e with settle := none }, [])
    | _, .invalid => Esd.enterFault s
    | .opened, .opened | .closed, .closed => (s, [])
    | .opened, _ | .closed, _ => Esd.enterFault s
    | .moving, .between => (s, [])
    | .moving, .closed => if e.dir == .toOpen then (s, []) else Esd.take (e.rest .closed) s
    | .moving, .opened => if e.dir == .toClosed then (s, []) else Esd.take (e.rest .opened) s

/-- The travel towards `dir` begins, or the running one is reversed: the timer is started at 15 s (R12, R13, R14). DESIGN
CHOICE (log entry 60): R11 decodes on a change, so contacts that show the target already do not end the travel; it ends
at their next change to it, or at the expiry of the timer. -/
def Esd.travelTo (dir : EswDir) (driving : Bool) (s : State) : Out :=
  Esd.take { s.esd with state := .moving, dir := dir, driving := driving, travel := some 15000, request := .none } s

/-- R12: a close request. DESIGN CHOICE (log entry 9): a request against a running travel reverses it at once, with the
output released while the new interlock does not hold, as R14 says of every such request. -/
def Esd.closeRequest (s : State) : Out :=
  match s.esd.state, s.esd.dir with
  | .fault, _ => (s, [])
  | .closed, _ => (s.setEsd { s.esd with request := .none }, [])
  | .moving, .toClosed => (s, [])
  | .moving, .toOpen => Esd.travelTo .toClosed s.closeInterlock s
  | .moving, .none | .opened, _ =>
    if s.closeInterlock then Esd.travelTo .toClosed true s else (s.setEsd { s.esd with request := .closing }, [])

/-- R13: an open request. -/
def Esd.openRequest (s : State) : Out :=
  match s.esd.state, s.esd.dir with
  | .fault, _ => (s, [])
  | .opened, _ => (s.setEsd { s.esd with request := .none }, [])
  | .moving, .toOpen => (s, [])
  | .moving, .toClosed => Esd.travelTo .toOpen s.setHeld s
  | .moving, .none | .closed, _ =>
    if s.setHeld then Esd.travelTo .toOpen true s else (s.setEsd { s.esd with request := .opening }, [])

/-- R13: the sequencer withdraws a pending open request. -/
def Esd.withdraw (s : State) : Out :=
  if s.esd.request == .opening then (s.setEsd { s.esd with request := .none }, []) else (s, [])

/-- R14: the travel timer expires before the target position is read. -/
def Esd.travelExpired (s : State) : Out := if s.esd.travel.isSome then Esd.enterFault s else (s, [])

/-- R16: the contacts have shown an end position for 1 s in FAULT. -/
def Esd.settled (s : State) : Out :=
  if s.esd.settle.isSome then
    match s.eswRead with
    | .closed => Esd.take (s.esd.rest .closed) s
    | .opened => Esd.take (s.esd.rest .opened) s
    | .between | .invalid => (s.setEsd { s.esd with settle := none }, [])
  else (s, [])

/-- A pending request whose interlock has come to hold is carried out (R12, R13), and the drive output of a travel
follows its interlock (R14). It answers none where nothing is to be done. -/
def Esd.due (s : State) : Option Out :=
  let e := s.esd
  let atRest := e.state == .opened || e.state == .closed || (e.state == .moving && e.dir == .none)
  if e.request == .closing && atRest && s.closeInterlock then some (Esd.travelTo .toClosed true s)
  else if e.request == .opening && atRest && s.setHeld then some (Esd.travelTo .toOpen true s)
  else if e.state == .moving && e.dir != .none && e.driving != s.travelInterlock then
    some (s.setEsd { e with driving := s.travelInterlock }, [])
  else none

/-- R17: the state the ESD takes at the end of a successful load. -/
def Esd.atLoad (pins : Pins) : Esd :=
  let r := eswReading pins.posc pins.poso
  { state := match r with
      | .closed => .closed
      | .opened => .opened
      | .between => .moving
      | .invalid => .fault
    dir := .none, driving := false, travel := none, settle := none, request := .none }

end Sys2Proof.Machine
end

