-- ==== Sys2Proof/Machine/Breaker.lean ====
section
/-!
DEFINITION. The breaker drive (BKD): contact reading, hold conditions, closing, opening, anti-pump, unexpected contact
changes and UPSTREAM-TRIP (R68 to R81).
-/

namespace Sys2Proof.Machine

/-- R68: the pair of auxiliary contacts decoded. -/
def contactReading (auxc auxo : Bool) : Contact :=
  match auxc, auxo with
  | true, false => .closed
  | false, true => .opened
  | false, false => .between
  | true, true => .invalid

/-- The sequencer states of the fourth hold condition (R70). -/
def SeqState.holdable : SeqState → Bool
  | .syncing | .deadwait | .parallel | .shore | .releaseWait | .handback | .unloading => true
  | .start | .vacant | .hooked | .proving | .ready | .isolating | .lockout => false

/-- R70: the four hold conditions. -/
def State.holdConditions (s : State) : Bool :=
  s.setHeld && s.esd.state == .opened && s.ptu.latched.isEmpty && s.csq.state.holdable

/-- R69: the BKD takes the values `b`, and a change of its state goes to the plug set monitor, the protection unit and
the changeover sequencer, in that order. The earthing switch drive and the interlocks of HOLD read the values
themselves (log entry 6). -/
def Bkd.take (b : Bkd) (s : State) : Out :=
  (s.setBkd b,
    if b.state != s.bkd.state then [.psmLive, .ptuBreaker b.state, .csqBreaker b.state] else [])

/-- R73: the open carried out from CLOSED, and the open that follows a failed close (R72) or the contact watch (R78):
HOLD is released, a TRIP pulse issued, the open supervised for 100 ms; a reading already OPEN ends it at once. -/
def Bkd.opens (b : Bkd) : Bkd :=
  { b with
    hold := false
    tripPulse := some 100
    closeSup := none
    contactWatch := none
    state := if b.reading == .opened then .opened else .opening
    openSup := if b.reading == .opened then none else some 100 }

/-- R74: a trip during closing. CLOSE is not released, the anti-pump timer starts, and the open supervision runs for
100 ms from the end of the CLOSE pulse. -/
def Bkd.opensClosing (b : Bkd) : Bkd :=
  { b with
    hold := false
    tripPulse := some 100
    closeSup := none
    contactWatch := none
    state := .opening
    antiPump := some 10000
    openSup := some (b.closePulse.getD 0 + 100) }

/-- R73, R74: an open order, a trip order or an interlock open, by the breaker state; absorbed in OPENING, OPEN and
FAILED. -/
def Bkd.order (b : Bkd) : Bkd :=
  match b.state with
  | .opened | .opening | .failed => b
  | .closing => b.opensClosing
  | .closed => if b.closePulse.isSome then b.opensClosing else b.opens

/-- R73: an open order of the sequencer. -/
def Bkd.openOrder (s : State) : Out := Bkd.take s.bkd.order s

/-- R94: a trip order of the protection unit, given unless the breaker shows OPEN; in OPEN it would be absorbed. -/
def Bkd.tripOrder (s : State) : Out := Bkd.take s.bkd.order s

/-- R70: an interlock open, when HOLD is energised and a hold condition has failed. -/
def Bkd.retest (s : State) : Out :=
  if s.bkd.hold && !s.holdConditions then Bkd.take s.bkd.order s else (s, [])

/-- R71: the first condition that refuses a close order, in the order of its table. -/
def State.closeRefusal (s : State) : Option CloseRefusal :=
  if s.bkd.state != .opened then some .busy
  else if !s.ptu.latched.isEmpty then some .tripLatched
  else if !s.bkd.slotHeld then some .noSlot
  else if !s.holdConditions then some .interlock
  else if s.bkd.antiPump.isSome then some .antiPump
  else none

/-- R71, R77: a close order. A refusal has no effect at the sequencer of its own (R45), so nothing is handed back; one
under the anti-pump period is noted. -/
def Bkd.closeOrder (s : State) : Out :=
  match s.closeRefusal with
  | some .antiPump => (s.setBkd { s.bkd with refusedClose := true }, [])
  | some _ => (s, [])
  | none =>
    let o := Bkd.take
      { s.bkd with
        hold := true, closePulse := some 100, closeSup := some (s.figs.tClose + 100), state := .closing } s
    (o.1, .csqCloseAccepted :: o.2)

/-- R71, R74: a report of the claim unit that the slot is held or freed. A slot freed while CLOSE is asserted releases
CLOSE, and the limit of a trip during closing runs from that moment. DESIGN CHOICE (log entry 53): so too where the trip
itself frees the slot, unlike the worked sequences of section 4.7. -/
def Bkd.slot (held : Bool) (s : State) : Out :=
  let b := { s.bkd with slotHeld := held }
  if !held && b.closePulse.isSome then
    (s.setBkd
      { b with
        closePulse := none
        openSup := if b.state == .opening && b.openSup.isSome then some 100 else b.openSup }, [])
  else (s.setBkd b, [])

/-- R79, R76: an unexpected close: the source is handed on, then the open begins under supervision. -/
def Bkd.unexpectedClose (s : State) : Out :=
  let o := Bkd.take
    { s.bkd with tripPulse := some 100, state := .opening, openSup := some 100 } s
  (o.1, .ptuOnset .unexpectedClose :: o.2)

/-- R76, R80: a change of the sequencer state. Out of LOCKOUT, UPSTREAM-TRIP is released, and a breaker still FAILED is
treated as an unexpected close; out of START, UPSTREAM-TRIP is kept only in LOCKOUT. The hold conditions are
re-tested. -/
def Bkd.onSeq (old new : SeqState) (s : State) : Out :=
  if old == .lockout then
    let s := s.setBkd { s.bkd with upstream := false }
    if s.bkd.state == .failed then Bkd.unexpectedClose s else Bkd.retest s
  else if old == .start then
    Bkd.retest (s.setBkd { s.bkd with upstream := s.bkd.upstream && new == .lockout })
  else Bkd.retest s

/-- R68, R72, R73, R76, R78, R79: a filtered change of the auxiliary contacts, judged against the breaker state. -/
def Bkd.contacts (auxc auxo : Bool) (s : State) : Out :=
  let s := s.setPins { s.pins with auxc := auxc, auxo := auxo }
  if !s.running then (s, [])
  else
    let b := { s.bkd with reading := contactReading auxc auxo }
    let t := s.setBkd b
    match b.state, b.reading with
    | .closing, .closed => Bkd.take { b with closeSup := none, state := .closed } s
    | .closing, _ => (t, [])
    | .closed, .opened =>
      (Bkd.take { b with hold := false, contactWatch := none, state := .opened } s).emit [.ptuOnset .breakerDrop]
    | .closed, .closed => (s.setBkd { b with contactWatch := none }, [])
    | .closed, _ => (s.setBkd { b with contactWatch := some (b.contactWatch.getD 100) }, [])
    | .opening, .opened => Bkd.take { b with openSup := none, state := .opened } s
    | .opening, _ => (t, [])
    | .failed, .opened => Bkd.take { b with state := .opened } s
    | .failed, _ => (t, [])
    | .opened, .opened => (t, [])
    | .opened, _ => Bkd.unexpectedClose t

/-- R71: the CLOSE pulse ends. -/
def Bkd.closePulseEnds (s : State) : Out := (s.setBkd { s.bkd with closePulse := none }, [])

/-- R73: the TRIP pulse ends, whatever the breaker state. -/
def Bkd.tripPulseEnds (s : State) : Out := (s.setBkd { s.bkd with tripPulse := none }, [])

/-- R72: the close supervision expires: the close has failed. CLOSE-FAILED goes before the state change of the open
that follows. -/
def Bkd.closeExpired (s : State) : Out :=
  if s.bkd.closeSup.isSome then
    let o := Bkd.take { s.bkd with antiPump := some 10000 }.opens s
    (o.1, .csqCloseFailed :: o.2)
  else (s, [])

/-- R75: the open supervision expires before the reading shows OPEN: the breaker has failed to open. DEDUCED (log entry
46): a reading that shows OPEN, because the stroke of a trip during closing never moved the contacts, is no failure; the
breaker is OPEN. -/
def Bkd.openExpired (s : State) : Out :=
  if s.bkd.openSup.isSome then
    if s.bkd.reading == .opened then Bkd.take { s.bkd with openSup := none, hold := false, state := .opened } s
    else
      let o := Bkd.take { s.bkd with openSup := none, hold := false, upstream := true, state := .failed } s
      (o.1, .ptuOnset .breakerFail :: o.2)
  else (s, [])

/-- R78: a closed breaker has stayed between positions for 100 ms. -/
def Bkd.watchExpired (s : State) : Out :=
  if s.bkd.contactWatch.isSome then
    let o := Bkd.take s.bkd.opens s
    (o.1, .ptuOnset .breakerDrop :: o.2)
  else (s, [])

/-- R77: the anti-pump timer expires. -/
def Bkd.antiPumpExpired (s : State) : Out :=
  if s.bkd.antiPump.isSome then
    (s.setBkd { s.bkd with antiPump := none, refusedClose := false },
      if s.bkd.refusedClose then [.csqAntiPumpEnded] else [])
  else (s, [])

/-- R81: the values the BKD takes at the end of a successful load. -/
def Bkd.atLoad (pins : Pins) (b : Bkd) : Bkd :=
  let r := contactReading pins.auxc pins.auxo
  if r == .opened then { b with reading := r, state := .opened }
  else { b with reading := r, state := .opening, tripPulse := some 100, openSup := some 100 }

end Sys2Proof.Machine
end

