-- ==== Sys2Proof/Machine/Metering.lean ====
section
/-!
DEFINITION. The metering port (MTP): intake, clamping, presence monitor, derived conditions (R18 to R26). The supply
prover (SPV): proof, loss and recovery of the shore supply (R27 to R33).
-/

namespace Sys2Proof.Machine

/-! ### The reading set -/

/-- Three fields of two bytes each. -/
def fieldThree (data : List Byte) (start : Nat) : Three :=
  ⟨fieldNat data start 2, fieldNat data (start + 2) 2, fieldNat data (start + 4) 2⟩

/-- A frequency held within 40000 to 70000 mHz (R20). -/
def clampFreq (f : Nat) : Nat := max 40000 (min 70000 f)

/-- R183: the bytes that bits spell, each most significant bit first; bits that fill no byte spell none. -/
def bytesOfBits : List Bool → List Byte
  | b7 :: b6 :: b5 :: b4 :: b3 :: b2 :: b1 :: b0 :: rest =>
    BitVec.ofNat 8
      ([b7, b6, b5, b4, b3, b2, b1, b0].foldl (fun n b => 2 * n + b.toNat) 0) :: bytesOfBits rest
  | _ => []

/-- The reading set a delivery of 36 bytes carries (section 12.2), clamped as R20 states. -/
def readingSetOf (d : List Byte) : ReadingSet :=
  let shoreV := fieldThree d 0
  let shipV := fieldThree d 6
  let shoreF := fieldNat d 12 4
  let shipF := fieldNat d 16 4
  let flags := fieldNat d 34 1
  { shoreV := shoreV.map (min 1500)
    shipV := shipV.map (min 1500)
    shoreF := clampFreq shoreF
    shipF := clampFreq shipF
    theta := wrapAngle (signed16 (fieldNat d 20 2))
    current := (fieldThree d 22).map (min 9999)
    residual := fieldNat d 28 2
    s := fieldNat d 30 2
    p := signed16 (fieldNat d 32 2)
    shoreSeq := PhaseSeq.ofCode (flags % 4)
    shipSeq := PhaseSeq.ofCode (flags / 4 % 4)
    serial := fieldNat d 35 1
    shoreVClamp := shoreV.any (1500 < ·)
    shipVClamp := shipV.any (1500 < ·)
    shoreFClamp := clampFreq shoreF != shoreF
    shipFClamp := clampFreq shipF != shipF }

/-- The converter-fault flag of a delivery: bit 4 of byte 34. -/
def converterFault (d : List Byte) : Bool := fieldNat d 34 1 / 16 % 2 == 1

/-- R18, R19: a delivery of these bits is discarded when its length differs from 36 bytes, when its converter-fault flag
is set, or when it repeats the last accepted serial. -/
def Mtp.discards (m : Mtp) (bits : List Bool) : Bool :=
  bits.length != 288 || converterFault (bytesOfBits bits) ||
    m.last.any fun r => r.serial == fieldNat (bytesOfBits bits) 35 1

/-- |f − fn| of the shore frequency. -/
def ReadingSet.shoreDeviation (r : ReadingSet) (fn : Nat) : Nat := ((r.shoreF : Int) - fn).natAbs

/-- R26: shore-good-for-proving. -/
def ReadingSet.shoreGood (r : ReadingSet) (fn : Nat) : Bool :=
  r.shoreV.all (fun v => 900 ≤ v && v ≤ 1100) && r.shoreDeviation fn ≤ 500 && r.shoreSeq == .positive &&
    !r.shoreVClamp && !r.shoreFClamp

/-- R26: shore-bad-when-proven. -/
def ReadingSet.shoreBad (r : ReadingSet) (fn : Nat) : Bool :=
  r.shoreV.any (fun v => v < 850 || 1150 < v) || 1000 < r.shoreDeviation fn || r.shoreSeq == .negative

/-! ### Acceptance and the presence monitor -/

/-- R18, R19: a discarded delivery sets the recovery count back to 0 while METERING-LOST is active. -/
def Mtp.discard (m : Mtp) : Mtp := if m.lost then { m with recovery := 0 } else m

/-- R21, R24, R25: the set is accepted: it becomes the last set, sets the presence latch and arms the monitor; the
fiftieth in a row during METERING-LOST ends it. -/
def Mtp.accept (r : ReadingSet) (m : Mtp) : Mtp :=
  let m := { m with last := some r, latch := true, armed := true }
  if m.lost then
    if m.recovery + 1 ≥ 50 then { m with lost := false, recovery := 0, miss := 0 }
    else { m with recovery := m.recovery + 1 }
  else m

/-- R22, R24: a check event reads the presence latch, clears it and counts. -/
def Mtp.checked (m : Mtp) : Mtp :=
  let m := { m with check := some 25 }
  if !m.armed then m
  else if m.latch then { m with latch := false, miss := 0 }
  else if m.lost then { m with miss := 2, recovery := 0 }
  else if m.miss = 0 then { m with miss := 1 }
  else { m with miss := 2, lost := true, recovery := 0 }

/-! ### The supply prover -/

/-- R27: the counting states. -/
def SeqState.counting : SeqState → Bool
  | .proving | .ready | .syncing | .deadwait | .parallel | .shore | .releaseWait | .handback | .unloading => true
  | .start | .vacant | .hooked | .isolating | .lockout => false

/-- R30: the states in which a declared shore loss makes the SHORE-LOSS condition. -/
def SeqState.shoreFed : SeqState → Bool
  | .parallel | .shore | .releaseWait | .handback | .unloading => true
  | .start | .vacant | .hooked | .proving | .ready | .syncing | .deadwait | .isolating | .lockout => false

/-- R31: the recovery count of a SHORE-LOSS condition that stood when the set came. -/
def Spv.recover (n : Nat) (good : Bool) (v : Spv) : Spv :=
  if !v.shoreLoss then v
  else if !good then { v with recovery := 0 }
  else if v.recovery + 1 ≥ n then { v with recovery := 0, shoreLoss := false }
  else { v with recovery := v.recovery + 1 }

/-- R28: a set taken while SHORE-PROVEN is clear, in a counting state. DESIGN CHOICE (log entry 48): where it ends a
SHORE-LOSS condition, the recovery count goes back to 0. -/
def Spv.prove (n : Nat) (good : Bool) (v : Spv) : Spv :=
  if !good then { v with stability := 0 }
  else if v.stability + 1 ≥ n then
    { v with stability := n, proven := true, badRun := 0, shoreLoss := false, recovery := 0 }
  else { v with stability := v.stability + 1 }

/-- R29, R30: a set taken while SHORE-PROVEN is set, in a counting state; the fifth bad one in a row declares shore
loss. -/
def Spv.test (bad : Bool) (state : SeqState) (v : Spv) : Spv × List Handoff :=
  if !bad then ({ v with badRun := 0 }, [])
  else if v.badRun + 1 ≥ 5 then
    let w := { v with proven := false, stability := 0, badRun := 0 }
    if state.shoreFed then
      ({ w with shoreLoss := true, recovery := 0 }, [.csqShoreLoss, .ptuCondition .shoreLoss])
    else (w, [.csqShoreLoss])
  else ({ v with badRun := v.badRun + 1 }, [])

/-- R28, R29, R31, R32: an accepted set at the prover. `lost` says that METERING-LOST was active when the set came; the
set whose acceptance ends it is not used. -/
def Spv.onSet (r : ReadingSet) (lost : Bool) (s : State) : Out :=
  if lost then (s, [])
  else
    let good := r.shoreGood s.figs.fn
    let v := s.spv.recover s.figs.n good
    if !s.csq.state.counting then (s.setSpv v, [])
    else if v.proven then
      let w := v.test (r.shoreBad s.figs.fn) s.csq.state
      (s.setSpv w.1, w.2)
    else (s.setSpv (v.prove s.figs.n good), [])

/-- The states at whose entry the proof is withdrawn (R27). -/
def SeqState.resetsProof : SeqState → Bool
  | .proving | .hooked | .vacant | .isolating | .lockout => true
  | .start | .ready | .syncing | .deadwait | .parallel | .shore | .releaseWait | .handback | .unloading => false

/-- R27: entry to PROVING, HOOKED, VACANT, ISOLATING or LOCKOUT. -/
def Spv.onSeq (new : SeqState) (s : State) : Out :=
  if new.resetsProof then (s.setSpv { s.spv with stability := 0, proven := false, badRun := 0 }, []) else (s, [])

/-- R32: the onset of METERING-LOST. -/
def Spv.meteringOnset (s : State) : Out :=
  (s.setSpv { s.spv with stability := 0, proven := false, badRun := 0, recovery := 0 }, [])

end Sys2Proof.Machine
end

