-- ==== Sys2Proof/Machine/Synchronism.lean ====
section
/-!
DEFINITION. The synchronism checker (SYC): angle prediction, close permission, negative sequence, dead bus (R82 to
R93).
-/

namespace Sys2Proof.Machine

/-- R84: the slip of a set. -/
def ReadingSet.df (r : ReadingSet) : Int := (r.shipF : Int) - r.shoreF

/-- R84: the predicted angle at the moment of contact; the division is truncated toward zero. -/
def predictAngle (theta df : Int) (tClose : Nat) : Int :=
  let sum := theta + (36 * df * tClose).tdiv 10000
  if sum > 1800 then sum - 3600 else if sum < -1799 then sum + 3600 else sum

/-- R84: the Δf and the prediction that a set leaves; a clamped frequency leaves neither, a slip beyond the limit leaves
no prediction. -/
def ReadingSet.figuresAt (r : ReadingSet) (f : Figures) : Option Int × Option Int :=
  if r.shoreFClamp || r.shipFClamp then (none, none)
  else if f.slip < r.df.natAbs then (some r.df, none)
  else (some r.df, some (predictAngle r.theta r.df f.tClose))

/-- The magnitude of a difference of two voltages. -/
def voltDiff (a b : Nat) : Nat := ((a : Int) - b).natAbs

/-- R85: the verdict of a set, by the first condition it does not meet; NONE when it is sync-good. -/
def ReadingSet.verdictAt (r : ReadingSet) (f : Figures) : Verdict :=
  if r.shoreVClamp || r.shipVClamp || r.shoreFClamp || r.shipFClamp then .clamp
  else if !r.shipV.all (fun v => 900 ≤ v && v ≤ 1100) then .shipVoltage
  else if !(voltDiff r.shipV.l1 r.shoreV.l1 ≤ f.vDiff && voltDiff r.shipV.l2 r.shoreV.l2 ≤ f.vDiff &&
      voltDiff r.shipV.l3 r.shoreV.l3 ≤ f.vDiff) then .difference
  else if f.slip < r.df.natAbs then .slip
  else if !(r.shoreSeq == .positive && r.shipSeq == .positive) then .sequence
  else if f.angle < (predictAngle r.theta r.df f.tClose).natAbs then .angle
  else .none

/-- R88: the negative-sequence run; a report is made when it reaches 25. -/
def Syc.countNegative (r : ReadingSet) (y : Syc) : Syc × List Handoff :=
  if r.shipSeq == .negative then
    ({ y with negative := min 25 (y.negative + 1) }, if y.negative = 24 then [.csqNegative] else [])
  else ({ y with negative := 0 }, [])

/-- R84, R85, R86: a set evaluated in SYNC-ACTIVE. -/
def Syc.evaluate (r : ReadingSet) (f : Figures) (y : Syc) : Syc × List Handoff :=
  let v := r.verdictAt f
  let g := r.figuresAt f
  let y := { y with lastDf := g.1, lastPred := g.2, verdict := v }
  if v == .none then
    let n := min 3 (y.good + 1)
    ({ y with good := n, permit := y.permit || n == 3 }, if n == 3 && !y.permit then [.csqPermit] else [])
  else ({ y with good := 0, permit := false }, if y.permit then [.csqPermitWithdrawn] else [])

/-- R89: a set evaluated in DEAD-ACTIVE. -/
def Syc.countDead (r : ReadingSet) (y : Syc) : Syc × List Handoff :=
  if r.shipDead then
    let n := min 25 (y.dead + 1)
    ({ y with dead := n, confirm := y.confirm || n == 25, verdict := .dead },
      if n == 25 && !y.confirm then [.csqDeadConfirmed] else [])
  else ({ y with dead := 0, confirm := false, verdict := .live }, if y.confirm then [.csqDeadWithdrawn] else [])

/-- R83, R90: an accepted set at the checker; disregarded when METERING-LOST was active as it came. -/
def Syc.onSet (r : ReadingSet) (lost : Bool) (s : State) : Out :=
  if lost then (s, [])
  else
    match s.syc.watch with
    | .idle | .deadPending => (s, [])
    | .syncPending =>
      let n := s.syc.countNegative r
      (s.setSyc n.1, n.2)
    | .syncActive =>
      let e := s.syc.evaluate r s.figs
      let n := e.1.countNegative r
      (s.setSyc n.1, e.2 ++ n.2)
    | .deadActive =>
      let d := s.syc.countDead r
      (s.setSyc d.1, d.2)

/-- R82, R91: every state change sets the watch and clears the counts. DESIGN CHOICE (log entry 54): the verdict goes IDLE
at the state change of an abort itself. -/
def Syc.onSeq (new : SeqState) (s : State) : Out :=
  (s.setSyc
    { Syc.atReset with
      watch :=
        match new with
        | .syncing => .syncPending
        | .deadwait => .deadPending
        | _ => .idle }, [])

/-- R82: the ship's READY moves a pending watch to its active form. -/
def Syc.onReady (s : State) : Out :=
  match s.syc.watch with
  | .syncPending => (s.setSyc { s.syc with watch := .syncActive, good := 0 }, [])
  | .deadPending => (s.setSyc { s.syc with watch := .deadActive, dead := 0 }, [])
  | .idle | .syncActive | .deadActive => (s, [])

/-- R90: the onset of METERING-LOST ends a standing permission or confirmation; the watch is kept. DEDUCED (log entry
40): the verdict NO-METERING is taken in every watch, as R90 states it without exception. -/
def Syc.meteringOnset (s : State) : Out :=
  (s.setSyc
    { s.syc with
      good := 0, dead := 0, negative := 0, permit := false, confirm := false, lastDf := none, lastPred := none,
      verdict := .noMetering },
    (if s.syc.permit then [.csqPermitWithdrawn] else []) ++ (if s.syc.confirm then [.csqDeadWithdrawn] else []))

end Sys2Proof.Machine
end

