-- ==== Sys2Proof/Machine/Protection.lean ====
section
/-!
DEFINITION. The protection unit (PTU): onsets, the trip record, the detectors on the reading set, acknowledge (R94 to
R111).
-/

namespace Sys2Proof.Machine

/-! ### Conditions and onsets -/

/-- Is the condition of a level source present, as the block that holds it presents it (R96, R98)? A source of the
event class has no condition. -/
def State.conditionPresent (s : State) : Source → Bool
  | .eStop => s.ptu.eStop
  | .pilotLoss => s.psm.lossWhileLive
  | .earthContinuity => s.psm.earthContinuity
  | .earthFault => s.ptu.earthFault
  | .shoreLoss => s.spv.shoreLoss
  | .meteringLost => s.mtp.lost
  | .earthingSwitch => s.esd.state == .fault
  | .overcurrent | .overload | .reversePower | .breakerDrop | .breakerFail | .unexpectedClose => false

/-- R94, R95, R96: an onset, unless the source is latched already: it is latched, and becomes the first-out of an empty
set. The changed set goes to the breaker drive, which re-tests its hold conditions; then come the trip order, the notice
to the sequencer, and the attention unit. -/
def Ptu.onset (x : Source) (s : State) : Out :=
  if s.ptu.latched.contains x then (s, [])
  else
    let p := { s.ptu with latched := s.ptu.latched ++ [x] }
    let q :=
      if s.ptu.latched.isEmpty then
        { p with firstOut := some x, firstOutTime := some s.csq.runTime, earlierRun := false, age := 0 }
      else p
    (s.setPtu q, [.bkdRetest, .bkdTrip, .csqNotice x, .atuSources])

/-- R98: a handed condition has become present; EARTH-CONTINUITY has no onset in START. -/
def Ptu.condition (x : Source) (s : State) : Out :=
  if x == .earthContinuity && s.csq.state == .start then (s, []) else Ptu.onset x s

/-- R98, R102: a sequencer state change: the reverse-power run is cleared on entry to PARALLEL and UNLOADING, and a
present EARTH-CONTINUITY has its onset at the change out of START. -/
def Ptu.onSeq (old new : SeqState) (s : State) : Out :=
  let t :=
    if new == .parallel || new == .unloading then s.setPtu { s.ptu with reverseRun := 0 } else s
  (t, if old == .start && s.psm.earthContinuity then [.ptuOnset .earthContinuity] else [])

/-- R102, R103, R104: the breaker drive reports its state; OPEN clears the accumulator and the reverse-power run and
arms OVER. -/
def Ptu.onBreaker (state : BreakerState) (s : State) : Out :=
  if state == .opened then
    (s.setPtu { s.ptu with acc := 0, overArmed := true, notice := false, reverseRun := 0 }, [])
  else (s, [])

/-- R97: a filtered change of the emergency-stop chain. -/
def Ptu.estop (isOpen : Bool) (s : State) : Out :=
  let s := s.setPins { s.pins with eStop := isOpen }
  if s.running then
    (s.setPtu { s.ptu with eStop := isOpen }, if isOpen && !s.ptu.eStop then [.ptuOnset .eStop] else [])
  else (s, [])

/-- R99: the onset of METERING-LOST sets three run counts to 0. -/
def Ptu.meteringOnset (s : State) : Out :=
  (s.setPtu { s.ptu with earthRun := 0, overcurrentRun := 0, reverseRun := 0 }, [.ptuCondition .meteringLost])

/-! ### Detectors -/

/-- R101: the overcurrent detector. -/
def Ptu.detectOvercurrent (r : ReadingSet) (threshold : Nat) (p : Ptu) : Ptu × List Handoff :=
  if r.current.any (threshold < ·) then
    ({ p with overcurrentRun := min 2 (p.overcurrentRun + 1) },
      if p.overcurrentRun = 1 then [.ptuOnset .overcurrent] else [])
  else ({ p with overcurrentRun := 0 }, [])

/-- R100: the earth-fault detector. -/
def Ptu.detectEarthFault (r : ReadingSet) (threshold : Nat) (p : Ptu) : Ptu × List Handoff :=
  if threshold < r.residual then
    let n := min 5 (p.earthRun + 1)
    ({ p with earthRun := n, earthFault := p.earthFault || n == 5 },
      if n == 5 && !p.earthFault then [.ptuOnset .earthFault] else [])
  else ({ p with earthRun := 0, earthFault := false }, [])

/-- R103: the level L1. -/
def levelOne (k : Nat) : Nat := 5 * k

/-- R103: the level L2. -/
def levelTwo (k : Nat) : Nat := 250 * k

/-- R103, R105: the accumulator after a set, floored at 0 and capped at L2. One that a fall of K has left above the new
L2 is capped there, whatever S is. -/
def accumulate (acc s k : Nat) : Nat := if levelTwo k < acc then levelTwo k else min (acc + s - k) (levelTwo k)

/-- R103, R104, R105: the overload accumulator, OVER, the notice condition and OVERLOAD. A K of 0 holds the accumulator
at 0 with neither level tested. DESIGN CHOICE (log entry 58): the levels shown follow the K of every accepted set, with
the breaker OPEN too. -/
def Ptu.detectOverload (r : ReadingSet) (k : Nat) (breaker : BreakerState) (p : Ptu) : Ptu × List Handoff :=
  if breaker == .opened || k = 0 then ({ p with acc := 0, levelK := k, overArmed := true, notice := false }, [])
  else
    let a := accumulate p.acc r.s k
    let crossed := levelOne k ≤ a && p.overArmed
    ({ p with acc := a, levelK := k, overArmed := if a = 0 then true else if crossed then false else p.overArmed,
              notice := levelOne k ≤ a },
      (if crossed then [.slcOrder .over] else []) ++ (if a = levelTwo k then [.ptuOnset .overload] else []))

/-- R102: the reverse-power detector. -/
def Ptu.detectReverse (r : ReadingSet) (limit : Nat) (breaker : BreakerState) (state : SeqState) (p : Ptu) :
    Ptu × List Handoff :=
  if breaker == .opened || state == .parallel || state == .unloading then ({ p with reverseRun := 0 }, [])
  else if r.p < -(limit : Int) then
    ({ p with reverseRun := min 100 (p.reverseRun + 1) },
      if p.reverseRun = 99 then [.ptuOnset .reversePower] else [])
  else ({ p with reverseRun := 0 }, [])

/-- R95, R99: the detectors on an accepted set, in the order of R99. -/
def Ptu.onSet (r : ReadingSet) (s : State) : Out :=
  let f := s.figs
  let a := s.ptu.detectOvercurrent r f.overcurrent
  let b := a.1.detectEarthFault r f.residual
  let c := b.1.detectOverload r s.clu.claim s.bkd.state
  let d := c.1.detectReverse r f.reversePower s.bkd.state s.csq.state
  (s.setPtu d.1, a.2 ++ b.2 ++ c.2 ++ d.2)

/-! ### Acknowledge -/

/-- Section 6.7: a source is eligible when it is of the event class or its condition is absent. -/
def State.eligible (s : State) (x : Source) : Bool := !x.level || !s.conditionPresent x

/-- R107, R108, R109: the sources that are eligible and in `scope` are removed; an emptied set clears the first-out. The
earlier-run mark stands until the first-out is next set (R96, log entry 23). In START an acknowledge is disregarded. -/
def Ptu.acknowledge (scope : List Source) (s : State) : Out :=
  if !s.running || s.csq.state == .start then (s, [])
  else
    let kept := s.ptu.latched.filter fun x => !(scope.contains x && s.eligible x)
    if kept = s.ptu.latched then (s, [])
    else
      let p := { s.ptu with latched := kept }
      let q :=
        if kept.isEmpty then { p with firstOut := none, firstOutTime := none, age := 0 } else p
      (s.setPtu q, [.bkdRetest, .atuSources])

end Sys2Proof.Machine
end

