-- ==== Sys2Proof/Machine/Sequencer.lean ====
section
/-!
DEFINITION. The changeover sequencer (CSQ): procedures and records, phases, panel and ship requests, trips, isolating,
LOCKOUT (R34 to R67).
-/

namespace Sys2Proof.Machine

/-! ### Result records and the state change -/

/-- R36: the sequence number after `n`. -/
def nextSeq (n : Nat) : Nat := if n = 65535 then 1 else n + 1

/-- R37: a record appended as the newest; the oldest of 16 is dropped first. -/
def appendRecord (log : List Record) (r : Record) : List Record :=
  (if log.length ≥ 16 then log.drop 1 else log) ++ [r]

/-- R36: the record that the sequencer writes now. -/
def State.recordNow (kind : RecordKind) (ending : Ending) (cause : Cause) (mode : Mode) (start : Nat) (s : State) :
    Record :=
  { seq := nextSeq s.csq.seq, kind := kind, ending := ending, cause := cause, mode := mode, start := start
    duration := min 65535 (secondsSince s.csq.runTime start)
    energy := if kind == .transferIn then none else some s.shc.energy
    residue := s.slc.e, peak := s.csq.peak }

/-- R35, R37: the record is written; the procedure and the reset marker are cleared. -/
def Csq.write (r : Record) (c : Csq) : Csq :=
  { c with log := appendRecord c.log r, seq := r.seq, proc := none, marker := none }

/-- The record kind of a procedure. -/
def ProcKind.record : ProcKind → RecordKind
  | .transferIn => .transferIn
  | .handback => .handback

/-- R60: an end that is answered with REFUSED. -/
def answeredRefused (kind : ProcKind) (ending : Ending) : Bool :=
  match kind, ending with
  | .transferIn, .aborted | .transferIn, .failed | .handback, .aborted => true
  | _, _ => false

/-- R35, R36, R60: the procedure in progress ends with this outcome and cause; where none is in progress nothing is
written. -/
def Csq.endProc (ending : Ending) (cause : Cause) (s : State) : Out :=
  match s.csq.proc with
  | none => (s, [])
  | some p =>
    (s.setCsq (s.csq.write (s.recordNow p.kind.record ending cause p.mode p.start)),
      .atuSources :: (if answeredRefused p.kind ending then [.slcOrder (.refused cause)] else []))

/-- R62, R63: a connection ends in a FALLBACK record, which ends a HANDBACK in RELEASE-WAIT with it. -/
def Csq.endFallback (ending : Ending) (cause : Cause) (s : State) : Out :=
  (s.setCsq (s.csq.write (s.recordNow .fallback ending cause .none (s.csq.shoreEntry.getD 0))), [.atuSources])

/-- R35: a procedure is opened, and its kind, mode and start time go into the reset marker. -/
def Csq.openProc (kind : ProcKind) (mode : Mode) (fixed : Option (Ending × Cause)) (s : State) : Out :=
  (s.setCsq
    { s.csq with
      proc := some ⟨kind, mode, s.csq.runTime, fixed⟩
      marker := some ⟨kind, mode, s.csq.runTime⟩ }, [])

/-- R34: the new state is handed on: to the attention unit, the supply prover, the protection unit, the breaker drive,
the synchronism checker, the share calculator and the bus controller; then the sequencer makes the requests of the
entered state. DESIGN CHOICE (log entries 4 and 31): in this order; on entry to PROVING the requests go before the share
calculator, which publishes Cd with the pending floor that the floor request makes (R144, R165). -/
def stateChanged (old new : SeqState) : List Handoff :=
  [.atuSources, .spvSeq new, .ptuSeq old new, .bkdSeq old new, .sycSeq new] ++
    if new == .proving then [.csqEntered new, .shcSeq old new, .tbcStatus]
    else [.shcSeq old new, .tbcStatus, .csqEntered new]

/-- A state change that leaves no phase timer and no sub-phase behind; the watch, CABLE-LIVE and the trip-isolation
indication belong to ISOLATING (R57, R58, R34), the quiet timer to ISOLATING and LOCKOUT (R57). -/
def Csq.moveTo (new : SeqState) (c : Csq) : Csq :=
  { c with
    state := new, sub := .none, phase := none, isoWatch := none, cableLive := false, tripIso := false
    quiet := if c.state == .lockout && new == .isolating then c.quiet else none }

/-- The state `new` is entered, with the further changes `f` of the sequencer's own items. -/
def Csq.enter (new : SeqState) (f : Csq → Csq) (s : State) : Out :=
  (s.setCsq (f (s.csq.moveTo new)), stateChanged s.csq.state new)

/-- R57: entry to ISOLATING; `trip` says that a trip led there (R34). DESIGN CHOICE (log entry 52): the shore entry time
of a connection that ends here stands on, until the next connection's or a reset. -/
def Csq.enterIsolating (trip : Bool) (s : State) : Out :=
  Csq.enter .isolating
    (fun c => { c with releaseDelay := none, slotTimer := none, isoWatch := some 300000, tripIso := trip }) s

/-- R66: entry to LOCKOUT. -/
def Csq.enterLockout (s : State) : Out :=
  Csq.enter .lockout
    (fun c => { c with releaseDelay := none, slotTimer := none, unloadRun := 0, proc := none, marker := none,
                       mask := true }) s

/-- R39: entry to VACANT clears the two counts. -/
def Csq.enterVacant (s : State) : Out := Csq.enter .vacant (fun c => { c with retry := 0, closeFail := 0 }) s

/-- HOOKED where the set is COMPLETE, VACANT otherwise (R38, R58). -/
def Csq.enterRest (s : State) : Out :=
  if s.psm.setState == .complete then Csq.enter .hooked id s else Csq.enterVacant s

/-- R42: entry to PROVING sets the connection peak to 0 and starts the phase timer at 600 s. -/
def Csq.enterProving (mode : Mode) (s : State) : Out :=
  Csq.enter .proving (fun c => { c with mode := mode, peak := 0, phase := some 600000 }) s

/-- R49: entry to SHORE from DEADWAIT or PARALLEL records the shore entry time and starts the slot timer. -/
def Csq.enterShoreNew (s : State) : Out :=
  Csq.enter .shore (fun c => { c with shoreEntry := some c.runTime, slotTimer := some 10000 }) s

/-- R49: return to SHORE from RELEASE-WAIT or HANDBACK. -/
def Csq.returnToShore (s : State) : Out := Csq.enter .shore id s

/-! ### Ends of a transfer -/

/-- R38, R61: the requests to the other blocks are withdrawn. -/
def withdrawals : List Handoff := [.cluWithdrawFloor, .cluWithdrawStep, .cluFreeStep, .esdWithdraw]

/-- R38: is the way out of a transfer straight to HOOKED or VACANT: before PARALLEL, with the breaker OPEN, a switch that
never left CLOSED and latches that are released at once? -/
def State.straightOut (s : State) : Bool :=
  s.csq.state != .parallel && s.bkd.state == .opened && s.esd.state == .closed && s.releaseAtOnce

/-- R38, R61, R65: the way out of a transfer whose record `o` has just written: straight to HOOKED or VACANT, or through
ISOLATING with the breaker ordered open. The open goes before the withdrawals, so that a slot freed by them finds the
order already taken (R74). -/
def Csq.wayOut (trip : Bool) (o : Out) : Out :=
  if o.1.straightOut then
    let e := Csq.enterRest o.1
    (e.1, o.2 ++ withdrawals ++ .psmRelease :: e.2)
  else
    let e := Csq.enterIsolating trip o.1
    (e.1, .bkdOpen :: (o.2 ++ withdrawals ++ e.2))

/-- R38: a retryable abort: the TRANSFER-IN ends ABORTED, the retry count rises, the requests are withdrawn. -/
def Csq.abort (cause : Cause) (trip : Bool) (s : State) : Out :=
  let o := Csq.endProc .aborted cause s
  Csq.wayOut trip (o.1.setCsq { o.1.csq with retry := min 3 (o.1.csq.retry + 1) }, o.2)

/-- R61: supersession of a TRANSFER-IN: as a retryable abort, but the retry count is not changed. -/
def Csq.supersede (cause : Cause) (s : State) : Out := Csq.wayOut false (Csq.endProc .superseded cause s)

/-- R38, R66: a fatal abort of the procedure in progress. -/
def Csq.fail (ending : Ending) (cause : Cause) (s : State) : Out :=
  (Csq.endProc ending cause s).andThen Csq.enterLockout

/-- R35, R51, R53, R55: the breaker is ordered open by the sequencer, the outcome of the HANDBACK is fixed, and
ISOLATING is entered. -/
def Csq.isolateWith (ending : Ending) (cause : Cause) (s : State) : Out :=
  let c := { s.csq with proc := s.csq.proc.map fun p => { p with fixed := some (ending, cause) } }
  let o := Csq.enterIsolating false (s.setCsq c)
  (o.1, .bkdOpen :: o.2)

/-- Is the sequencer in a phase of a TRANSFER-IN before the breaker has closed? -/
def SeqState.transferring : SeqState → Bool
  | .proving | .ready | .syncing | .deadwait => true
  | .start | .vacant | .hooked | .parallel | .shore | .releaseWait | .handback | .unloading | .isolating
  | .lockout => false

/-! ### Modes -/

/-- Is the mode allowed by configuration and offered in SHIP-HELLO (R40, R41, R52)? -/
def State.modeAvailable (s : State) : Mode → Bool
  | .closed => s.figs.allowClosed && s.slc.offersClosed
  | .opened => s.figs.allowOpen && s.slc.offersOpen
  | .none => false

/-- The other mode. -/
def Mode.other : Mode → Mode
  | .closed => .opened
  | .opened => .closed
  | .none => .none

/-- R41: the mode chosen for a preference, none where neither mode is available. -/
def State.chooseMode (preferred : Mode) (s : State) : Mode :=
  if s.modeAvailable preferred then preferred
  else if s.modeAvailable preferred.other then preferred.other
  else .none

/-- A REFUSED ordered to the ship. -/
def refuse (cause : Cause) (s : State) : Out := (s, [.slcOrder (.refused cause)])

/-! ### The panel -/

/-- R40, R51: a CONNECT press. -/
def Csq.connect (s : State) : Out :=
  match s.csq.state with
  | .hooked =>
    let mode := s.chooseMode .closed
    if s.slc.link != .up || !s.ptu.latched.isEmpty || mode == .none then (s, [.pnlRefused])
    else
      ((Csq.openProc .transferIn mode none (s.setCsq { s.csq with mask := false, retry := 0 })).emit
        [.atuSources]).andThen (Csq.enterProving mode)
  | .releaseWait =>
    let o := Csq.endProc .superseded .operator (s.setCsq { s.csq with releaseDelay := none })
    (Out.andThen (o.1, .slcOrder (.release true) :: o.2) Csq.returnToShore)
  | _ => (s, [.pnlRefused])

/-- R50, R59, R61: a short RELEASE press. -/
def Csq.release (s : State) : Out :=
  match s.csq.state with
  | .shore =>
    let o := (Csq.openProc .handback .none none s).emit [.slcOrder (.release false)]
    o.andThen (Csq.enter .releaseWait fun c =>
      { c with releaseDelay := some (c.releaseDelay.getD (s.figs.releaseDelay * 1000)) })
  | .proving | .ready | .syncing | .deadwait | .parallel => Csq.supersede .operator s
  | .start | .vacant | .hooked | .releaseWait | .handback | .unloading | .isolating | .lockout => (s, [])

/-- R56: a hard release. -/
def Csq.hardRelease (s : State) : Out :=
  match s.csq.state with
  | .shore | .releaseWait | .handback | .unloading =>
    let o := if s.csq.proc.isNone then Csq.openProc .handback .none none s else (s, [])
    o.andThen (Csq.isolateWith .forced .hardRelease)
  | .start | .vacant | .hooked | .proving | .ready | .syncing | .deadwait | .parallel | .isolating | .lockout =>
    (s, [])

/-- The conditions of HOOKED and VACANT but for the set (R39, R66). -/
def State.cableAtRest (s : State) : Bool :=
  s.esd.state == .closed && s.bkd.state == .opened && s.latchesFree

/-- R66: the lockout clear. -/
def Csq.lockoutClear (s : State) : Out :=
  if s.csq.state == .lockout && s.ptu.latched.isEmpty then
    if s.cableAtRest then Csq.enterRest s else Csq.enterIsolating false s
  else (s, [])

/-! ### Ship requests (R59) -/

/-- R41: a ship TRANSFER-IN with its mode preference. -/
def Csq.transferIn (preferred : Mode) (s : State) : Out :=
  match s.csq.state with
  | .hooked =>
    let mode := s.chooseMode preferred
    if s.csq.mask then refuse .masked s
    else if s.csq.retry ≥ 3 then refuse .retries s
    else if !s.ptu.latched.isEmpty then refuse .tripLatched s
    else if mode == .none then refuse .mode s
    else (Csq.openProc .transferIn mode none s).andThen (Csq.enterProving mode)
  | .proving | .ready | .syncing | .deadwait | .parallel | .shore => (s, [])
  | .start | .vacant | .releaseWait | .handback | .unloading | .isolating | .lockout => refuse .sequence s

/-- R45, R47, R53, R59: a ship READY. -/
def Csq.readyMsg (s : State) : Out :=
  match s.csq.state with
  | .syncing | .deadwait =>
    if s.csq.sub == .awaitingReady then
      (s.setCsq
        { s.csq with
          sub := .awaitingPermission, phase := some (if s.csq.state == .syncing then 60000 else 5000) },
        [.sycReady])
    else (s, [])
  | .handback =>
    if s.csq.proc.any fun p => p.mode == .opened then Csq.isolateWith .completed .none s else refuse .sequence s
  | .start | .vacant | .hooked | .proving | .ready | .parallel | .shore | .releaseWait | .unloading | .isolating
  | .lockout => refuse .sequence s

/-- R48, R59: a ship UNLOADED. -/
def Csq.unloadedMsg (s : State) : Out :=
  if s.csq.state == .parallel then (Csq.endProc .completed .none s).andThen Csq.enterShoreNew
  else refuse .sequence s

/-- R52, R53, R59: a ship HANDBACK with a mode. -/
def Csq.handbackMsg (mode : Mode) (s : State) : Out :=
  match s.csq.state with
  | .shore | .releaseWait =>
    if s.modeAvailable mode then
      let start := (s.csq.proc.map (·.start)).getD s.csq.runTime
      let c := { s.csq with proc := some ⟨.handback, mode, start, none⟩, marker := some ⟨.handback, mode, start⟩ }
      let o := Csq.enter .handback (fun c => { c with phase := some 180000 }) (s.setCsq c)
      (o.1, (if mode == .opened then [.slcOrder (.proceed .opened s.figs.parallelLimit)] else []) ++ o.2)
    else refuse .mode s
  | .handback | .unloading => (s, [])
  | .start | .vacant | .hooked | .proving | .ready | .syncing | .deadwait | .parallel | .isolating | .lockout =>
    refuse .sequence s

/-- R52, R55, R59: a ship TAKEN. -/
def Csq.takenMsg (s : State) : Out :=
  match s.csq.state with
  | .handback =>
    if s.csq.proc.any fun p => p.mode == .closed then
      Csq.enter .unloading
        (fun c => { c with phase := some (s.figs.parallelLimit * 1000), unloadRun := 0 }) s
    else refuse .sequence s
  | .unloading => (s, [])
  | .start | .vacant | .hooked | .proving | .ready | .syncing | .deadwait | .parallel | .shore | .releaseWait
  | .isolating | .lockout => refuse .sequence s

/-- R54, R59, R61: a ship ABANDON. -/
def Csq.abandonMsg (s : State) : Out :=
  match s.csq.state with
  | .proving | .ready | .syncing | .deadwait | .parallel => Csq.supersede .shipAbandon s
  | .handback => (Csq.endProc .superseded .shipAbandon s).andThen Csq.returnToShore
  | .start | .vacant | .hooked | .shore | .releaseWait | .unloading | .isolating | .lockout => refuse .sequence s

/-! ### Timers -/

/-- R43: the cause at the 600 s limit names the first missing condition. -/
def State.provingCause (s : State) : Cause :=
  if !s.spv.proven then .shoreUnstable else if s.clu.kf = 0 then .budget else .switchTimeout

/-- R43 to R48, R54, R55: the phase limit expires. -/
def Csq.phaseExpired (s : State) : Out :=
  if s.csq.phase.isNone then (s, [])
  else
    let s := s.setCsq { s.csq with phase := none }
    match s.csq.state with
    | .proving => Csq.abort s.provingCause false s
    | .ready => Csq.abort .stepBusy false s
    | .syncing => Csq.abort (if s.csq.sub == .awaitingReady then .shipTimeout else .syncTimeout) false s
    | .deadwait =>
      Csq.abort
        (if s.csq.sub == .awaitingReady then .shipTimeout
          else if s.mtp.shipLive then .liveBus else .deadTimeout) false s
    | .parallel => Csq.abort .parallelTimeout false s
    | .handback => (Csq.endProc .aborted .shipTimeout s).andThen Csq.returnToShore
    | .unloading => Csq.isolateWith .forced .unloadTimeout s
    | .start | .vacant | .hooked | .shore | .releaseWait | .isolating | .lockout => (s, [])

/-- R49, R51, R55: the release delay expires. -/
def Csq.releaseExpired (s : State) : Out :=
  if s.csq.releaseDelay.isNone then (s, [])
  else
    let s := s.setCsq { s.csq with releaseDelay := none }
    match s.csq.state with
    | .releaseWait | .handback | .unloading => Csq.isolateWith .forced .releaseExpired s
    | .shore =>
      if s.csq.proc.isNone then
        (Csq.openProc .handback .none none s).andThen (Csq.isolateWith .forced .releaseExpired)
      else (s, [])
    | .start | .vacant | .hooked | .proving | .ready | .syncing | .deadwait | .parallel | .isolating | .lockout =>
      (s, [])

/-- R49: the slot timer expires. -/
def Csq.slotExpired (s : State) : Out :=
  if s.csq.slotTimer.isSome then (s.setCsq { s.csq with slotTimer := none }, [.cluFreeStep]) else (s, [])

/-- R57: the quiet timer expires. -/
def Csq.quietExpired (s : State) : Out :=
  if s.csq.quiet.isSome then (s.setCsq { s.csq with quiet := none }, [.cluRelease]) else (s, [])

/-- R58: the 300 s watch expires in ISOLATING. -/
def Csq.watchExpired (s : State) : Out :=
  if s.csq.isoWatch.isNone then (s, [])
  else if s.csq.state == .isolating then
    (s.setCsq { s.csq with isoWatch := none, cableLive := true }, [.atuSources])
  else (s.setCsq { s.csq with isoWatch := none }, [])

/-! ### Reports of other blocks -/

/-- R42, R44, R57, R58, R66, R39: the requests made on entry to a state, if it is still the state. DESIGN CHOICE (log
entry 51): in ISOLATING with the switch CLOSED the latch release is requested at once, whatever LIVE is; with every latch
already FREE it is answered at once and ISOLATING is left, but for the entry from the census (`Csq.firstState`). -/
def Csq.entered (new : SeqState) (s : State) : Out :=
  if s.csq.state != new then (s, [])
  else
    match new with
    | .proving => (s, [.psmEngage, .esdOpen, .cluFloor])
    | .ready => (s.setCsq { s.csq with phase := some 300000 }, [.cluStep])
    | .isolating =>
      (s, [.bkdOpen, .cluFreeStep, .esdClose] ++ (if s.esd.state == .closed then [.psmRelease] else []))
    | .lockout => (s, [.cluFreeStep, .esdClose])
    | .vacant | .hooked => (s, [.cluRelease, .cluFreeStep])
    | .start | .syncing | .deadwait | .parallel | .shore | .releaseWait | .handback | .unloading => (s, [])

/-- R58: the earthing switch drive reports a change. -/
def Csq.onSwitch (s : State) : Out :=
  (s, if s.csq.state == .isolating && s.esd.state == .closed then [.psmRelease] else [])

/-- R58: LATCHES-RELEASED in ISOLATING: the record of a HANDBACK kept open is written, and ISOLATING is left. -/
def Csq.latchesReleased (s : State) : Out :=
  if s.csq.state == .isolating then
    let o :=
      match s.csq.proc.bind (·.fixed) with
      | some f => Csq.endProc f.1 f.2 s
      | none => (s.setCsq { s.csq with proc := none, marker := none }, [])
    o.andThen Csq.enterRest
  else (s, [])

/-- R43: LATCH-FAIL, in PROVING only. -/
def Csq.latchFail (s : State) : Out := if s.csq.state == .proving then Csq.abort .latchFail false s else (s, [])

/-- R43 to R47: PLUG-DISTURBED, before closing. -/
def Csq.plugDisturbed (s : State) : Out :=
  if s.csq.state.transferring && s.csq.sub != .closing then Csq.abort .plugDisturbed false s else (s, [])

/-- R44: the claim unit reports the slot held; outside READY it is asked to free it. -/
def Csq.slotHeld (s : State) : Out :=
  if s.csq.state == .ready then
    let o := Csq.enter (if s.csq.mode == .opened then .deadwait else .syncing)
      (fun c => { c with sub := .awaitingReady, phase := some 120000 }) s
    (o.1, .slcOrder (.proceed s.csq.mode s.figs.parallelLimit) :: o.2)
  else (s, [.cluFreeStep])

/-- R45: PERMIT while awaiting permission orders the close. -/
def Csq.permit (s : State) : Out :=
  (s, if s.csq.state == .syncing && s.csq.sub == .awaitingPermission then [.bkdClose] else [])

/-- R47: the dead bus is confirmed. -/
def Csq.deadConfirmed (s : State) : Out :=
  if s.csq.state == .deadwait && s.csq.sub == .awaitingPermission then
    (s.setCsq { s.csq with phase := none }, [.bkdClose])
  else (s, [])

/-- R47: the confirmation is withdrawn while an anti-pump period is waited out. -/
def Csq.deadWithdrawn (s : State) : Out :=
  if s.csq.state == .deadwait && s.csq.sub == .awaitingPermission && s.bkd.refusedClose then
    Csq.abort .liveBus false s
  else (s, [])

/-- R45, R47: a close order is accepted. -/
def Csq.closeAccepted (s : State) : Out := (s.setCsq { s.csq with phase := none, sub := .closing }, [])

/-- R45, R47, R86: the anti-pump period has ended: the close is ordered again if the permission or confirmation still
stands. -/
def Csq.antiPumpEnded (s : State) : Out :=
  (s,
    if s.csq.sub == .awaitingPermission &&
      ((s.csq.state == .syncing && s.syc.permit) || (s.csq.state == .deadwait && s.syc.confirm))
    then [.bkdClose] else [])

/-- R45, R88: the ship phase sequence is negative for its run, before closing. -/
def Csq.negative (s : State) : Out :=
  if s.csq.state == .syncing && s.csq.sub != .closing then Csq.abort .phaseSequence false s else (s, [])

/-- R46, R57: the breaker drive reports its state: CLOSED in closing completes the close; OPEN in ISOLATING or LOCKOUT
is told to the ship. -/
def Csq.onBreaker (state : BreakerState) (s : State) : Out :=
  match state, s.csq.state with
  | .closed, .syncing =>
    if s.csq.sub == .closing then
      let o := Csq.enter .parallel (fun c => { c with phase := some (s.figs.parallelLimit * 1000) }) s
      (o.1, .slcOrder .closed :: o.2)
    else (s, [])
  | .closed, .deadwait =>
    if s.csq.sub == .closing then
      let o := (Csq.endProc .completed .none s).andThen Csq.enterShoreNew
      (o.1, .slcOrder .closed :: o.2)
    else (s, [])
  | .opened, .isolating | .opened, .lockout => (s, [.slcOrder .opened])
  | _, _ => (s, [])

/-- R46: a close has failed: retryable the first time in a hookup, fatal the second. -/
def Csq.closeFailed (s : State) : Out :=
  if (s.csq.state == .syncing || s.csq.state == .deadwait) && s.csq.sub == .closing then
    if s.csq.closeFail = 0 then Csq.abort .closeFail false (s.setCsq { s.csq with closeFail := 1 })
    else Csq.fail .failed .closeFail s
  else (s, [])

/-- R64: a declared shore loss. -/
def Csq.shoreLoss (s : State) : Out :=
  match s.csq.state with
  | .ready | .syncing | .deadwait => Csq.abort .shoreUnstable false s
  | .start | .vacant | .hooked | .proving | .parallel | .shore | .releaseWait | .handback | .unloading | .isolating
  | .lockout => (s, [])

/-- R65: a link loss. -/
def Csq.linkLoss (s : State) : Out :=
  match s.csq.state with
  | .proving | .ready | .syncing | .deadwait | .parallel => Csq.abort .linkLost false s
  | .start | .vacant | .hooked | .shore | .releaseWait | .handback | .unloading | .isolating | .lockout => (s, [])

/-! ### Trips -/

/-- R62: a notice of a source that is not fatal. DESIGN CHOICE (log entry 49): an ABORTED TRANSFER-IN is answered with
REFUSED in PARALLEL too (R60), where the table of R62 names no message. -/
def Csq.tripped (x : Source) (s : State) : Out :=
  let m := s.setCsq { s.csq with mask := true }
  let c := Cause.trip x
  let tell (o : Out) : Out := (o.1, .atuSources :: o.2)
  match s.csq.state with
  | .start => (s, [])
  | .vacant | .hooked | .isolating | .lockout => tell (m, [])
  | .proving | .ready | .syncing | .deadwait | .parallel => tell (Csq.abort c true m)
  | .shore | .releaseWait =>
    tell (Out.andThen ((Csq.endFallback .forced c m).1, .slcOrder .fallback :: (Csq.endFallback .forced c m).2)
      (Csq.enterIsolating true))
  | .handback =>
    tell (Out.andThen ((Csq.endProc .aborted c m).1, .slcOrder .fallback :: (Csq.endProc .aborted c m).2)
      (Csq.enterIsolating true))
  | .unloading =>
    tell (Out.andThen ((Csq.endProc .forced c m).1, .slcOrder .fallback :: (Csq.endProc .forced c m).2)
      (Csq.enterIsolating true))

/-- R63: a notice of a fatal source. -/
def Csq.trippedFatal (x : Source) (s : State) : Out :=
  let c := Cause.trip x
  match s.csq.state with
  | .start => (s, [])
  | .lockout => (s.setCsq { s.csq with mask := true }, [.atuSources])
  | .vacant | .hooked => Csq.enterLockout s
  | .proving | .ready | .syncing | .deadwait | .parallel => Csq.fail .failed c s
  | .shore | .releaseWait =>
    Out.andThen ((Csq.endFallback .failed c s).1, .slcOrder .fallback :: (Csq.endFallback .failed c s).2)
      Csq.enterLockout
  | .handback =>
    let o := Csq.fail .failed c s
    (o.1, .slcOrder .fallback :: o.2)
  | .unloading =>
    let o := Csq.fail .forced c s
    (o.1, .slcOrder .fallback :: o.2)
  | .isolating => Csq.fail .forced c s

/-- R62, R63: a trip notice. -/
def Csq.notice (x : Source) (s : State) : Out := if x.fatal then Csq.trippedFatal x s else Csq.tripped x s

/-! ### Reading sets -/

/-- R36: the states in which the connection peak follows S. -/
def SeqState.peaking : SeqState → Bool
  | .proving | .ready | .syncing | .deadwait | .parallel | .shore | .releaseWait | .handback | .unloading
  | .isolating => true
  | .start | .vacant | .hooked | .lockout => false

/-- R55: the unload level, with the published claim K. -/
def unloadLevel (k : Nat) : Nat := max 20 (k / 20)

/-- R36, R55, R57: an accepted set at the sequencer: the connection peak, the unload run, the quiet timer. -/
def Csq.onSet (r : ReadingSet) (s : State) : Out :=
  let s := if s.csq.state.peaking then s.setCsq { s.csq with peak := max s.csq.peak r.s } else s
  match s.csq.state with
  | .unloading =>
    if r.s ≤ unloadLevel s.clu.claim then
      let t := s.setCsq { s.csq with unloadRun := min 10 (s.csq.unloadRun + 1) }
      if t.csq.unloadRun = 10 then Csq.isolateWith .completed .none t else (t, [])
    else (s.setCsq { s.csq with unloadRun := 0 }, [])
  | .isolating | .lockout =>
    if 10 ≤ r.s then (s.setCsq { s.csq with quiet := none }, [])
    else if s.bkd.state == .opened then (s.setCsq { s.csq with quiet := some (s.csq.quiet.getD 1000) }, [])
    else (s, [])
  | .start | .vacant | .hooked | .proving | .ready | .syncing | .deadwait | .parallel | .shore | .releaseWait
  | .handback => (s, [])

/-! ### Standing conditions, and the end of the census -/

/-- R39, R43: a move that is due because all its conditions hold; none where none is due. -/
def Csq.due (s : State) : Option Out :=
  match s.csq.state with
  | .vacant =>
    if s.psm.setState == .complete && s.cableAtRest then some (Csq.enter .hooked id s) else none
  | .hooked => if s.psm.setState != .complete then some (Csq.enterVacant s) else none
  | .proving =>
    if s.spv.proven && s.esd.state == .opened && s.clu.kf != 0 then some (Csq.enter .ready id s) else none
  | .start | .ready | .syncing | .deadwait | .parallel | .shore | .releaseWait | .handback | .unloading
  | .isolating | .lockout => none

/-- Is it a live cable alone that keeps the census from HOOKED and VACANT: the switch CLOSED, every latch FREE (R182)? -/
def State.liveAlone (s : State) : Bool := s.psm.live && s.esd.state == .closed && s.latchesFree

/-- R182: the first working state. DESIGN CHOICE (log entry 51): where a live cable alone leads to ISOLATING, the release
request of R58 waits there for DEAD-1S under the CABLE-LIVE watch, as R182 says of a berth with no converter, and is not
answered at once as R6 would have it. -/
def Csq.firstState (s : State) : Out :=
  if s.ptu.latched.any Source.fatal then Csq.enterLockout s
  else if s.esd.state != .closed || s.bkd.state != .opened || s.psm.live || !s.latchesFree then
    let o := Csq.enterIsolating false s
    if s.liveAlone then (o.1, .psmAwaitDead :: o.2) else o
  else Csq.enterRest s

/-- R67: the record of a procedure that an external reset cut off. -/
def Csq.resetRecord (c : Csq) : Csq :=
  match c.marker with
  | none => c
  | some m =>
    c.write
      { seq := nextSeq c.seq, kind := m.kind.record, ending := .reset, cause := .none, mode := m.mode
        start := m.start, duration := 0, energy := none, residue := none, peak := 0 }

end Sys2Proof.Machine
end

