-- ==== Sys2Proof/Machine/ShipLink.lean ====
section
/-!
DEFINITION. The ship link controller (SLC): framing, transmission, link states, ship figures, ship requests and link
hold (R112 to R127).
-/

namespace Sys2Proof.Machine

/-! ### Messages to the ship -/

/-- The kind byte of a part-to-ship message (section 12.4). -/
def ShipMsg.kindCode : ShipMsg → Nat
  | .berthHello .. => 0x41
  | .ceiling .. => 0x42
  | .proceed .. => 0x43
  | .closed => 0x44
  | .opened => 0x45
  | .over => 0x46
  | .fallback => 0x47
  | .release _ => 0x48
  | .refused _ => 0x49

/-- The payload of a part-to-ship message (section 12.4). -/
def ShipMsg.payload : ShipMsg → List Byte
  | .berthHello berth vn fn np r => beBytes 1 berth ++ beBytes 4 vn ++ beBytes 4 fn ++ beBytes 1 np ++ beBytes 2 r
  | .ceiling floor charge => beBytes 2 floor ++ beBytes 2 charge
  | .proceed mode limit => beBytes 1 mode.code ++ beBytes 1 limit
  | .closed | .opened | .over | .fallback => []
  | .release cancel => [if cancel then 1#8 else 0#8]
  | .refused cause => beBytes 1 cause.code

/-- The frame of a message: start byte, kind, length, payload and CRC (section 7.1). -/
def ShipMsg.frame (m : ShipMsg) : List Byte :=
  let body := beBytes 1 m.kindCode ++ beBytes 1 m.payload.length ++ m.payload
  0x7E#8 :: (body ++ crcBytes body)

/-- The link states in which an order of this message is taken (R114, R124, R125, R126). -/
def ShipMsg.allowed (l : LinkState) : ShipMsg → Bool
  | .berthHello .. => l == .waiting || l == .incompatible || l == .lost
  | .ceiling .. | .proceed .. | .closed | .opened | .over | .fallback | .release _ | .refused _ => l == .up

def ShipMsg.isHello : ShipMsg → Bool
  | .berthHello .. => true
  | _ => false

def ShipMsg.isCeiling : ShipMsg → Bool
  | .ceiling .. => true
  | _ => false

/-- R114: the queue with a message ordered. A waiting CEILING is replaced in its place; a BERTH-HELLO that finds one
waiting is absorbed; with 8 messages waiting nothing joins (log entry 34). -/
def putMsg (m : ShipMsg) (q : List ShipMsg) : List ShipMsg :=
  if m.isCeiling && q.any ShipMsg.isCeiling then q.map fun x => if x.isCeiling then m else x
  else if m.isHello && q.any ShipMsg.isHello then q
  else if q.length < 8 then q ++ [m]
  else q

/-- R114: the transmission of the oldest message begins when the line is idle, and takes it out of the queue. -/
def Slc.begin (c : Slc) : Slc :=
  match c.sending, c.queue with
  | none, m :: rest => { c with sending := some m, queue := rest }
  | _, _ => c

/-- R114: a message is ordered. -/
def Slc.order (m : ShipMsg) (c : Slc) : Slc :=
  if m.allowed c.link then Slc.begin { c with queue := putMsg m c.queue } else c

/-- R126: another block orders a message. -/
def Slc.orderMsg (m : ShipMsg) (s : State) : Out := (s.setSlc (s.slc.order m), [])

/-- R124: the BERTH-HELLO of this run. -/
def State.berthHello (s : State) : ShipMsg := .berthHello s.own s.figs.vn s.figs.fn s.figs.np s.figs.r

/-- R125: the present content of a CEILING, floor and charge ceiling. -/
def State.ceilingContent (s : State) : Nat × Nat :=
  (s.clu.kf, match s.clu.pendingCeiling with
    | some p => p - s.clu.kf
    | none => s.clu.kc)

/-- R125: a CEILING is ordered whatever the last content, and its content becomes the last. -/
def Slc.sendCeiling (content : Nat × Nat) (c : Slc) : Slc :=
  Slc.order (.ceiling content.1 content.2) { c with lastCeiling := some content }

/-- R125: the claim unit presents Kf, Kc and the pending ceiling. -/
def Slc.presented (s : State) : Out :=
  if s.slc.link == .up && s.slc.lastCeiling != some s.ceilingContent then
    (s.setSlc (s.slc.sendCeiling s.ceilingContent), [])
  else (s, [])

/-! ### Link states -/

/-- R118, R114, R123: what leaving UP does. -/
def Slc.leaveUp (c : Slc) : Slc :=
  { c with queue := [], silence := none, ceiling := none, linkHold := some 60000 }

/-- R118, R123, R125: what entering UP does. DESIGN CHOICE (log entry 55): a BERTH-HELLO that waits stays queued. -/
def Slc.enterUp (content : Nat × Nat) (c : Slc) : Slc :=
  Slc.sendCeiling content
    { c with hello := none, silence := some 5000, linkHold := none, holdExpired := false, ceiling := some 5000 }

/-- R115: what entering DOWN does. DESIGN CHOICE (log entry 56): a BERTH-HELLO that waits stays queued. -/
def Slc.enterDown (c : Slc) : Slc :=
  { c with silence := none, hello := none, ceiling := none, sending := none, rx := .hunting, gap := none }

/-- R124: a BERTH-HELLO with the hello timer started at 10 s. -/
def Slc.announce (m : ShipMsg) (c : Slc) : Slc := Slc.order m { c with hello := some 10000 }

/-- R118: the link takes another state, with the effects of the departure and of the entry. The new state goes to the
changeover sequencer as a link loss where UP is left, and to the attention unit. -/
def Slc.change (new : LinkState) (s : State) : Out :=
  let c := if s.slc.link == .up then s.slc.leaveUp else s.slc
  let c := { c with link := new }
  let c :=
    match new with
    | .up => c.enterUp s.ceilingContent
    | .down => c.enterDown
    | .waiting | .incompatible | .lost => c.announce s.berthHello
  (s.setSlc c, (if s.slc.link == .up then [.csqLinkLoss] else []) ++ [.atuSources])

/-- R121: the ship figures cleared. -/
def Slc.clearFigures (c : Slc) : Slc :=
  { c with
    shipNumber := none, offersClosed := false, offersOpen := false, h := 0, c := 0, e := none, t0 := none
    t0Receipt := none, shipBus := .unknown, chargerDraw := 0 }

/-- R115: plug 1 enters or leaves MADE. -/
def Slc.plug (made : Bool) (s : State) : Out :=
  match made, s.slc.link with
  | true, .down => (Slc.change .waiting (s.setSlc s.slc.clearFigures)).emit [.shcFloor]
  | true, _ => (s, [])
  | false, .down => (s, [])
  | false, _ => Slc.change .down s

/-! ### Ship figures -/

/-- R119: the figures that a compatible SHIP-HELLO gives. -/
def Slc.takeHello (d : List Byte) (c : Slc) : Slc :=
  let modes := fieldNat d 18 1
  { c with
    shipNumber := some (fieldNat d 0 2)
    h := min 20000 (fieldNat d 10 4)
    c := min 20000 (fieldNat d 14 4)
    offersClosed := modes ≤ 3 && modes % 2 == 1
    offersOpen := modes ≤ 3 && modes / 2 % 2 == 1
    incompat := .none }

/-- R116: the frequency test. -/
def helloFrequencyOk (f : Figures) (d : List Byte) : Bool := fieldNat d 2 4 == f.fn

/-- R116: the voltage test. -/
def helloVoltageOk (f : Figures) (d : List Byte) : Bool :=
  20 * ((fieldNat d 6 4 : Int) - f.vn).natAbs ≤ f.vn

/-- R116, R117, R125: a valid SHIP-HELLO outside DOWN. DESIGN CHOICE (log entry 61): a further incompatible one in
INCOMPATIBLE is no entry (R124): the cause is replaced, no BERTH-HELLO goes out, and the hello timer runs on. -/
def Slc.shipHello (d : List Byte) (s : State) : Out :=
  if helloFrequencyOk s.figs d && helloVoltageOk s.figs d then
    let t := s.setSlc (s.slc.takeHello d)
    if s.slc.link == .up then
      (t.setSlc (Slc.sendCeiling t.ceilingContent { t.slc with silence := some 5000, ceiling := some 5000 }),
        [.shcFloor])
    else (Slc.change .up t).emit [.shcFloor]
  else
    let t := s.setSlc
      { s.slc with incompat := if helloFrequencyOk s.figs d then .voltage else .frequency }
    if s.slc.link == .incompatible then (t, []) else Slc.change .incompatible t

/-- R120: the figures that a SHIP-STATUS gives at running time `now`. DESIGN CHOICE (log entry 70): the bits of the
presence byte that have no name are not read. -/
def Slc.takeStatus (d : List Byte) (now : Nat) (c : Slc) : Slc :=
  let presence := fieldNat d 1 1
  { c with
    e := if presence % 2 == 1 then some (min 20000 (fieldNat d 2 4)) else none
    t0 := if presence / 2 % 2 == 1 then some (min 1439 (fieldNat d 6 2)) else none
    t0Receipt := if presence / 2 % 2 == 1 then some now else none
    shipBus := ShipBus.ofCode (fieldNat d 0 1)
    chargerDraw := min 20000 (fieldNat d 8 4) }

/-- R117, R120: a valid SHIP-STATUS; discarded outside UP. -/
def Slc.shipStatus (d : List Byte) (s : State) : Out :=
  if s.slc.link == .up then
    (s.setSlc { s.slc.takeStatus d s.csq.runTime with silence := some 5000 }, [.shcPass])
  else (s, [])

/-- R117, R122: a request taken in UP restarts the silence timer and is passed to the sequencer, which deals with it by
`f`; in every other state it is discarded. -/
def Slc.request (f : State → Out) (s : State) : Out :=
  if s.slc.link == .up then f (s.setSlc { s.slc with silence := some 5000 }) else (s, [])

/-! ### Reception -/

/-- The payload length of a ship-to-part kind (section 12.4); none for a byte that is no such kind. -/
def shipKindLength : Nat → Option Nat
  | 1 => some 24
  | 2 => some 12
  | 3 | 6 => some 1
  | 4 | 5 | 7 | 8 => some 0
  | _ => none

/-- A valid message completes. DESIGN CHOICE (log entry 26): the receiver is found hunting again, whether the message
came as a command of its own or byte by byte. In DOWN nothing is received (R112). -/
def Slc.message (f : State → Out) (s : State) : Out :=
  if s.slc.link == .down then (s, [])
  else f (s.setSlc { s.slc with rx := .hunting, gap := none })

/-- Section 7.5: a valid message is dealt with by its kind. -/
def Slc.dispatch (kind : Nat) (d : List Byte) (s : State) : Out :=
  let mode := Mode.ofByte (BitVec.ofNat 8 (fieldNat d 0 1))
  match kind with
  | 1 => Slc.shipHello d s
  | 2 => Slc.shipStatus d s
  | 3 => Slc.request (Csq.transferIn mode) s
  | 4 => Slc.request Csq.readyMsg s
  | 5 => Slc.request Csq.unloadedMsg s
  | 6 => Slc.request (Csq.handbackMsg mode) s
  | 7 => Slc.request Csq.takenMsg s
  | 8 => Slc.request Csq.abandonMsg s
  | _ => (s, [])

/-- R113: the three checks of a complete frame, given from its kind byte to its last CRC byte. -/
def frameValid (bs : List Byte) : Bool :=
  let len := fieldNat bs 1 1
  shipKindLength (fieldNat bs 0 1) == some len &&
    bs.drop (2 + len) == crcBytes (bs.take (2 + len))

/-- R112: the receiver returns to hunting. -/
def Slc.hunt (s : State) : Out := (s.setSlc { s.slc with rx := .hunting, gap := none }, [])

/-- R112, R113: a byte is received. DESIGN CHOICE (log entry 28): a start byte with a framing error starts no frame, and
the 10 ms of a gap run from each byte of the frame, its start byte included. -/
def Slc.receive (b : Byte) (framingError : Bool) (s : State) : Out :=
  if s.slc.link == .down then (s, [])
  else
    match s.slc.rx with
    | .hunting =>
      if b == 0x7E#8 && !framingError then
        (s.setSlc { s.slc with rx := .inFrame [], gap := some 10 }, [])
      else (s, [])
    | .inFrame bs =>
      let bs := bs ++ [b]
      if framingError then Slc.hunt s
      else if bs.length = 2 ∧ 24 < b.toNat then Slc.hunt s
      else if 2 ≤ bs.length ∧ fieldNat bs 1 1 + 4 ≤ bs.length then
        (Slc.hunt s).andThen fun s =>
          if frameValid bs then Slc.dispatch (fieldNat bs 0 1) ((bs.drop 2).take (fieldNat bs 1 1)) s else (s, [])
      else (s.setSlc { s.slc with rx := .inFrame bs, gap := some 10 }, [])

/-- R112: the gap after a byte of a frame exceeds 10 ms. -/
def Slc.gapExpired (s : State) : Out := if s.slc.gap.isSome then Slc.hunt s else (s, [])

/-! ### Transmission and timers -/

/-- R114: the message in transmission ends, and the next begins. -/
def Slc.transmitEnd (s : State) : Out :=
  if s.slc.sending.isSome then (s.setSlc (Slc.begin { s.slc with sending := none }), []) else (s, [])

/-- R117: the silence timer expires. -/
def Slc.silenceExpired (s : State) : Out :=
  if s.slc.silence.isSome then Slc.change .lost (s.setSlc { s.slc with silence := none }) else (s, [])

/-- R124: the hello timer expires. -/
def Slc.helloExpired (s : State) : Out :=
  if s.slc.hello.isSome then (s.setSlc (s.slc.announce s.berthHello), []) else (s, [])

/-- R125: the ceiling timer expires. -/
def Slc.ceilingExpired (s : State) : Out :=
  if s.slc.ceiling.isSome then
    (s.setSlc (Slc.order (.ceiling s.ceilingContent.1 s.ceilingContent.2) { s.slc with ceiling := some 5000 }), [])
  else (s, [])

/-- R123: the link-hold timer expires. The next share pass reads hold-expired (R162). -/
def Slc.linkHoldExpired (s : State) : Out :=
  if s.slc.linkHold.isSome then (s.setSlc { s.slc with linkHold := none, holdExpired := true }, []) else (s, [])

end Sys2Proof.Machine
end

