-- ==== Sys2Proof/Machine/TerminalBus.lean ====
section
/-!
DEFINITION. The bus controller (TBC): the CAN interface, the transmit queue, own frames and their completion, the peer
table, bus loss (R128 to R143).
-/

namespace Sys2Proof.Machine

/-! ### Frames -/

/-- R133: FLOOR-PENDING, set while there is a pending floor and no floor is held. -/
def Clu.floorPending (c : Clu) : Bool := c.kf == 0 && c.pendingFloor.isSome

/-- R133: the floor field: the pending floor while FLOOR-PENDING is set, Kf otherwise. -/
def Clu.floorField (c : Clu) : Nat := if c.kf = 0 then c.pendingFloor.getD 0 else c.kf

/-- Three 12-bit fields and 4 fill bits (section 12.3). -/
def packClaims (k floor cd : Nat) : List Byte :=
  beBytes 5 (((k / 10 % 4096 * 4096 + floor / 10 % 4096) * 4096 + cd / 10 % 4096) * 16)

/-- R133: the data of the STATUS that would be sent now. -/
def State.statusData (s : State) : List Byte :=
  beBytes 1 s.csq.state.code ++
    beBytes 1
      ((if s.csq.state == .start then 1 else 0) + (if s.clu.floorPending then 2 else 0) +
        (if s.clu.stepHeld then 4 else 0)) ++
    packClaims s.clu.claim s.clu.floorField s.shc.cd ++ beBytes 1 s.shc.uq

/-- Section 12.3: the data bytes of an own frame, sent now. DEDUCED (log entry 10): the proposed K of a BID travels in
units of 10 kVA, as every claim on the bus does. -/
def TxBody.data (s : State) : TxBody → List Byte
  | .object bidder serial reason => beBytes 1 bidder ++ beBytes 1 serial ++ beBytes 1 reason.code
  | .bid serial k kind => beBytes 1 serial ++ beBytes 2 (k / 10) ++ beBytes 1 kind.code
  | .stepBid serial => beBytes 1 serial
  | .stepFree => []
  | .status => s.statusData
  | .reply d => d

/-- R138: the frames that BUS-LOST withdraws and keeps out of the queue. -/
def TxBody.bidding : TxBody → Bool
  | .object .. | .bid .. | .stepBid _ => true
  | .stepFree | .status | .reply _ => false

def TxBody.isStatus : TxBody → Bool
  | .status => true
  | _ => false

/-! ### Conditions of the interface -/

/-- Does the interface take part in the traffic: ERROR-ACTIVE or ERROR-PASSIVE (R128)? -/
def CanState.onBus : CanState → Bool
  | .errorActive | .errorPassive => true
  | .off | .busOff | .listening => false

/-- May frames stand in the queue: the interface is not OFF and not in the listening condition (R138, R142, R143)? -/
def CanState.sends : CanState → Bool
  | .errorActive | .errorPassive | .busOff => true
  | .off | .listening => false

/-- R128: the condition that the two error counts give. -/
def Tbc.judged (t : Tbc) : Tbc :=
  { t with
    can :=
      if 255 < t.txErr then .busOff
      else if 128 ≤ t.txErr || 128 ≤ t.rxErr then .errorPassive
      else .errorActive }

/-- R128, R129: an error found by the interface; it ends the attempt of an own frame (log entry 14). DESIGN CHOICE (log
entry 12): the transmit error count is held at 256, the end of its range. -/
def Tbc.error (e : BusError) (t : Tbc) : Tbc :=
  if t.can.onBus then
    let t := { t with attempt := none }
    match e with
    | .transmit => Tbc.judged { t with txErr := min 256 (t.txErr + 8) }
    | .unacknowledged =>
      Tbc.judged { t with txErr := if t.can == CanState.errorPassive then t.txErr else min 256 (t.txErr + 8) }
    | .receive => Tbc.judged { t with rxErr := min 255 (t.rxErr + 1) }
  else t

/-- R128: 128 runs of 11 recessive bits have been seen in BUS-OFF. -/
def Tbc.recovered (t : Tbc) : Tbc :=
  if t.can == .busOff then { t with can := .errorActive, txErr := 0, rxErr := 0 } else t

/-! ### The transmit queue -/

/-- R129, R132, R138, R142: a frame is ordered. DESIGN CHOICE (log entry 16): an order of a STATUS finds one waiting while
one is in its attempt too. -/
def Tbc.order (b : TxBody) (t : Tbc) : Tbc :=
  if !t.can.sends then t
  else if t.busLost && b.bidding then t
  else if b.isStatus && t.queue.any (·.body.isStatus) then t
  else if t.queue.length < 24 then { t with queue := t.queue ++ [⟨b, some 1000⟩] }
  else t

/-- An order of another block. -/
def Tbc.orderFrame (b : TxBody) (s : State) : Out := (s.setTbc (s.tbc.order b), [])

/-- R132: a figure of the STATUS has changed. A change that a STATUS in its attempt does not carry orders a new one, which
goes out after it. -/
def Tbc.statusChanged (s : State) : Out :=
  match s.tbc.attempt with
  | some a =>
    if a.body.isStatus then (s.setTbc { s.tbc with attempt := some { a with again := true } }, [])
    else Tbc.orderFrame .status s
  | none => Tbc.orderFrame .status s

/-- R129: the queued frame offered for arbitration: the lowest kind code, and among equal ones the first ordered. -/
def offeredFrame : List TxFrame → Option TxFrame
  | [] => none
  | f :: rest =>
    match offeredFrame rest with
    | none => some f
    | some g => if f.body.kindCode ≤ g.body.kindCode then some f else some g

/-- The queue without the first frame of this kind. -/
def dropKind (k : BusKind) : List TxFrame → List TxFrame
  | [] => []
  | f :: rest => if f.body.kind == k then rest else f :: dropKind k rest

/-- An attempt is due: the interface is on the bus, a frame is queued and none is in its attempt. -/
def Tbc.attemptDue (t : Tbc) : Bool := t.can.onBus && t.attempt.isNone && !t.queue.isEmpty

/-- R129, R132: the offered frame goes into its attempt, with its content as it stands. -/
def Tbc.begin (s : State) : State :=
  match offeredFrame s.tbc.queue with
  | some f => s.setTbc { s.tbc with attempt := some ⟨f.body, f.body.data s, false⟩ }
  | none => s

/-- R129: the frame `a` of the attempt has completed. It leaves the queue, a STATUS ordered during its attempt is queued,
and BUS-LOST is cleared with a STATUS ordered (R139). DEDUCED (log entry 59): the queue timers restart at every
completion. -/
def Tbc.completed (a : Attempt) (ident : Nat) (t : Tbc) : Tbc :=
  let u := Tbc.judged
    { t with
      queue := (dropKind a.body.kind t.queue).map fun f => { f with timer := some 1000 }
      txErr := t.txErr - 1, attempt := none, busLost := false, lastSent := some ⟨ident, a.data⟩ }
  if a.again || t.busLost then u.order .status else u

/-- R128, R129, R139: the own frame with the identifier `ident` completes: the one in its attempt (log entry 14). A
completion of a BID, STEP-BID or OBJECT goes to the claim unit. -/
def Tbc.complete (ident : Nat) (s : State) : Out :=
  match s.tbc.attempt with
  | none => (s, [])
  | some a =>
    if s.tbc.can.onBus && ident == identifier a.body.kindCode s.own then
      (s.setTbc (s.tbc.completed a ident),
        (if a.body.bidding then [.cluCompleted a.body] else []) ++
          (if s.tbc.busLost then [.atuSources, .cluAttempt] else []))
    else (s, [])

/-- R132, R162: the period timer expires. -/
def Tbc.periodExpired (s : State) : Out :=
  if s.tbc.period.isSome then
    (s.setTbc (Tbc.order .status { s.tbc with period := some 1000 }), [.shcPass])
  else (s, [])

/-! ### Bus loss -/

/-- The least time left of the running queue timers. -/
def leastTimer : List TxFrame → Option Nat
  | [] => none
  | f :: rest =>
    match f.timer, leastTimer rest with
    | none, m => m
    | some n, none => some n
    | some n, some m => some (min n m)

/-- The first frame whose queue timer shows `n` has its timer at rest. -/
def restTimer (n : Nat) : List TxFrame → List TxFrame
  | [] => []
  | f :: rest => if f.timer = some n then { f with timer := none } :: rest else f :: restTimer n rest

/-- R138: the onset of BUS-LOST withdraws the bids and objections from the queue; one that is in its attempt stays there to
the end of it (log entry 15). -/
def Tbc.lose (t : Tbc) : Tbc :=
  { t with busLost := true, queue := t.queue.filter fun f => !f.body.bidding }

/-- R138: a queue timer expires: the one with the least time left (log entry 30). -/
def Tbc.queueExpired (s : State) : Out :=
  match leastTimer s.tbc.queue with
  | none => (s, [])
  | some n =>
    let t := { s.tbc with queue := restTimer n s.tbc.queue }
    if t.busLost then (s.setTbc t, []) else (s.setTbc t.lose, [.cluBusLost, .atuSources])

/-! ### The peer table -/

/-- The entry of berth `b`. -/
def findPeer (b : Nat) (l : List Peer) : Option Peer := l.find? fun p => p.berth == b

/-- The entry joins the table, in the order of berth numbers, in place of one of the same berth. -/
def setPeer (p : Peer) : List Peer → List Peer
  | [] => [p]
  | q :: rest =>
    if q.berth = p.berth then p :: rest
    else if p.berth < q.berth then p :: q :: rest
    else q :: setPeer p rest

/-- The entry of berth `b` is changed by `f`. -/
def updatePeer (b : Nat) (f : Peer → Peer) (l : List Peer) : List Peer :=
  l.map fun p => if p.berth == b then f p else p

/-- The entry of berth `b` is removed. -/
def erasePeer (b : Nat) (l : List Peer) : List Peer := l.filter fun p => p.berth != b

/-- R135: an entry made before its first STATUS. -/
def Peer.unheard (b : Nat) (hold : Option Nat) : Peer :=
  { berth := b, live := false, code := none, startFlag := false, floorPending := false, stepFlag := false, k := 0
    floor := 0, cd := 0, uq := 0, age := 65535, bid := none, stepHold := hold }

/-- R157: the step list record of berth `b`. -/
def findStep (b : Nat) (l : List StepRec) : Option StepRec := l.find? fun r => r.berth == b

/-- R157: the record joins the step list, in the order of berth numbers, in place of one of the same berth. -/
def putStep (r : StepRec) : List StepRec → List StepRec
  | [] => [r]
  | q :: rest =>
    if q.berth = r.berth then r :: rest
    else if r.berth < q.berth then r :: q :: rest
    else q :: putStep r rest

/-- R157: a record with neither a bid nor a hold is removed. -/
def tidySteps (l : List StepRec) : List StepRec := l.filter fun r => r.bid.isSome || r.hold.isSome

/-- R157: the step list with the record of berth `b` changed by `f`, made where there is none. -/
def updateStep (b : Nat) (f : StepRec → StepRec) (l : List StepRec) : List StepRec :=
  tidySteps (putStep (f ((findStep b l).getD ⟨b, none, none⟩)) l)

/-- R134, R135, R157: berth `b` has an entry; a step hold in the step list moves into an entry that is created. -/
def State.withEntry (b : Nat) (s : State) : State :=
  match findPeer b s.tbc.peers with
  | some _ => s
  | none =>
    let hold := (findStep b s.clu.stepList).bind (·.hold)
    (s.setTbc { s.tbc with peers := setPeer (Peer.unheard b hold) s.tbc.peers }).setClu
      { s.clu with stepList := updateStep b (fun r => { r with hold := none }) s.clu.stepList }

/-- R134: the figures of a STATUS written into an entry. FLOOR-PENDING and the floor's pending mark are one field (log
entry 68). -/
def Peer.file (d : List Byte) (p : Peer) : Peer :=
  let flags := fieldNat d 1 1
  let claims := fieldNat d 2 5
  { p with
    live := true
    code := some (fieldNat d 0 1)
    startFlag := flags % 2 == 1
    floorPending := flags / 2 % 2 == 1
    stepFlag := flags / 4 % 2 == 1
    k := claims / 2 ^ 28 * 10
    floor := claims / 2 ^ 16 % 4096 * 10
    cd := claims / 2 ^ 4 % 4096 * 10
    uq := fieldNat d 7 1
    age := 0 }

/-- R134: do K, the floor, Cd or Uq differ? DESIGN CHOICE (log entry 57): the floor's figure alone counts, not its pending
mark. -/
def Peer.figuresDiffer (p q : Peer) : Bool := p.k != q.k || p.floor != q.floor || p.cd != q.cd || p.uq != q.uq

/-- R134: the mark that goes with a filed STATUS; a new entry is marked as changed. -/
def State.statusChanges (b : Nat) (d : List Byte) (s : State) : Bool :=
  match findPeer b s.tbc.peers with
  | none => true
  | some p => (p.file d).figuresDiffer p

/-- R134: a STATUS from berth `b` filed in its entry. -/
def State.fileStatus (b : Nat) (d : List Byte) (s : State) : State :=
  let t := s.withEntry b
  t.setTbc { t.tbc with peers := updatePeer b (Peer.file d) t.tbc.peers }

/-- R136: an entry's age reaches 3000 ms. The claim unit and the share calculator read its liveness at their next test
and pass (R162). -/
def Tbc.stale (b : Nat) (s : State) : Out :=
  (s.setTbc
    { s.tbc with
      peers := updatePeer b (fun p => if p.live then { p with live := false, age := max 3000 p.age } else p)
        s.tbc.peers }, [])

/-- R137: berth `n` is forgotten; a berth with no entry changes nothing. -/
def Tbc.forget (n : Nat) (s : State) : Out := (s.setTbc { s.tbc with peers := erasePeer n s.tbc.peers }, [])

/-! ### Reception -/

/-- R130: a frame of another station completes on the bus and is dealt with by `f`. Where the interface is OFF, BUS-OFF
or listening it is not received. DESIGN CHOICE (log entries 13 and 14): every frame received lowers the receive error
count, and ends the attempt of an own frame. -/
def Tbc.receive (f : State → Out) (s : State) : Out :=
  if s.tbc.can.onBus then
    f (s.setTbc (Tbc.judged { s.tbc with rxErr := s.tbc.rxErr - 1, attempt := none }))
  else (s, [])

/-- R131: a frame with the own berth number; its first sets DUPLICATE. -/
def Tbc.ownNumber (s : State) : Out :=
  if s.tbc.duplicate then (s, []) else (s.setTbc { s.tbc with duplicate := true }, [.cluDuplicate, .atuSources])

/-- What the tests of R130 make of a frame. -/
inductive Reception where
  /-- A test fails. -/
  | disregarded
  /-- The second test fails: R131. -/
  | ownNumber
  /-- Every test passes. -/
  | passed (kind : BusKind) (sender : Nat)
  deriving DecidableEq, Repr

/-- R130, fourth test: may this sender send the kind? A REPLY is left to the fifth. -/
def BusKind.sentBy (sender : Nat) : BusKind → Bool
  | .query | .ackTrip | .control => sender == 0
  | .object | .bid | .stepBid | .stepFree | .status => sender != 0
  | .reply => true

/-- R130, sixth test: the data length that section 12.3 gives for the kind; none for REPLY, which has no one length and
does not come so far. -/
def BusKind.dataLength : BusKind → Option Nat
  | .stepFree => some 0
  | .stepBid => some 1
  | .object | .query | .ackTrip => some 3
  | .bid | .control => some 4
  | .status => some 8
  | .reply => none

/-- R129, R130: the kind code and the sender read from the identifier, and the six tests in their order, at the berth
`own`. -/
def reception (own : Nat) (ident : BitVec 11) (d : List Byte) : Reception :=
  let sender := ident.toNat % 32
  if 16 < sender then .disregarded
  else if sender = own then .ownNumber
  else
    match BusKind.ofCode (ident.toNat / 32) with
    | none => .disregarded
    | some kind =>
      if !kind.sentBy sender then .disregarded
      else if kind == .reply then .disregarded
      else if kind.dataLength != some d.length then .disregarded
      else .passed kind sender

/-- R140, R141: a frame of the supervisory station is dealt with where byte 0 of its data names the own berth. -/
def Tbc.forOwn (d : List Byte) (f : State → Out) (s : State) : Out := if fieldNat d 0 1 = s.own then f s else (s, [])

end Sys2Proof.Machine
end

