-- ==== Sys2Proof/Machine/Claims.lean ====
section
/-!
DEFINITION. The claim unit (CLU): the view and the bid tests, own bids, peer bids and objections, floor, charge and
top-up, lowering and release, the step slot (R144 to R161).
-/

namespace Sys2Proof.Machine

/-! ### The view (section 9.2) -/

/-- The contribution of a peer entry: the proposed K of its open bid, else its K and its pending floor. -/
def Peer.contribution (p : Peer) : Nat :=
  match p.bid with
  | some b => b.k
  | none => p.k + (if p.floorPending then p.floor else 0)

/-- The own contribution, on the same terms; an own bid counts only while OPEN, and one of kind STEP proposes no K
(R145). -/
def Clu.contribution (c : Clu) : Nat :=
  match c.bid with
  | some ⟨.claim _, _, k, some _⟩ => k
  | _ => c.claim + (if c.floorPending then c.pendingFloor.getD 0 else 0)

/-- The sum of the contributions of peer entries. -/
def contributions (l : List Peer) : Nat := (l.map Peer.contribution).sum

/-- R145: the view total. -/
def State.viewTotal (s : State) : Nat := s.clu.contribution + contributions s.tbc.peers

/-- R145: the claim unit is overcommitted. -/
def State.overcommitted (s : State) : Bool := s.avail < s.viewTotal

/-- R145: the own test of a proposed K. -/
def State.ownTest (k : Nat) (s : State) : Bool := contributions s.tbc.peers + k ≤ s.avail

/-- R145: the peer test of a proposal of berth `b`. -/
def State.peerTest (b q : Nat) (s : State) : Bool :=
  q + s.clu.contribution + contributions (erasePeer b s.tbc.peers) ≤ s.avail

/-- Is the own STEP bid OPEN (R157)? -/
def Clu.stepBidOpen (c : Clu) : Bool := c.bid.any fun b => b.kind == .step && b.window.isSome

/-- R146: the conditions under which the claim unit makes no bid. -/
def State.bidBlocked (s : State) : Bool :=
  s.csq.state == .start || s.tbc.busLost || s.slc.link != .up || s.overcommitted || s.tbc.duplicate ||
    s.clu.backoff.isSome || s.clu.bid.isSome

/-! ### Presentation (R144) -/

/-- R144, R125, R132, R176: the claim unit takes the values `c` and presents what has changed: Kf, Kc and the pending
ceiling to the ship link controller, the figures and flags of STATUS to the bus controller, BUDGET-WAIT to the attention
unit. The protection unit, the share calculator and the sequencer read K itself. -/
def Clu.put (c : Clu) (s : State) : Out :=
  (s.setClu c,
    (if c.kf != s.clu.kf || c.kc != s.clu.kc || c.pendingCeiling != s.clu.pendingCeiling then [.slcCeiling] else []) ++
    (if c.kf != s.clu.kf || c.kc != s.clu.kc || c.pendingFloor != s.clu.pendingFloor || c.stepHeld != s.clu.stepHeld
      then [.tbcStatus] else []) ++
    (if c.budgetWait != s.clu.budgetWait then [.atuSources] else []))

/-! ### Own bids -/

/-- R148: a bid of this kind and proposed K commits. -/
def Clu.committed (kind : OwnKind) (k : Nat) (c : Clu) : Clu :=
  let c := { c with bid := none }
  match kind with
  | .step => { c with stepHeld := true, stepReq := false }
  | .claim .floor => { c with kf := k, kc := 0, pendingFloor := none, floorReq := none, budgetWait := false }
  | .claim .charge => { c with kc := k - c.kf }
  | .claim .topup => { c with kf := k }

/-- R152, R156: what a commit reports: the slot held to the breaker drive and to the sequencer, the floor held to the
sequencer. -/
def commitReports : OwnKind → List Handoff
  | .step => [.bkdSlot true, .csqSlotHeld]
  | .claim .floor => [.csqFloorHeld]
  | .claim .charge | .claim .topup => []

/-- R148: a bid commits: the changes are presented, the report is made, and its end is an attempt point (R146). -/
def Clu.commit (kind : OwnKind) (k : Nat) (s : State) : Out :=
  (Clu.put (s.clu.committed kind k) s).emit (commitReports kind ++ [.cluAttempt])

/-- R147: the serial after `n`. -/
def serialAfter (n : Nat) : Nat := if n = 255 then 0 else n + 1

/-- R147, R153: what making a bid changes besides: a CHARGE bid takes up the charge wish, a TOPUP bid starts the top-up
timer. -/
def Clu.takeWish (kind : OwnKind) (c : Clu) : Clu :=
  match kind with
  | .claim .charge => { c with chargeWish := none }
  | .claim .topup => { c with topup := some 10000 }
  | .step | .claim .floor => c

/-- R147: a bid is made, with stage QUEUED, and its frame ordered. R160: in solitary mode it commits at once. -/
def Clu.makeBid (kind : OwnKind) (k : Nat) (s : State) : Out :=
  let c := s.clu.takeWish kind
  if s.figs.solitary then Clu.commit kind k (s.setClu c)
  else
    (s.setClu { c with bid := some ⟨kind, c.nextSerial, k, none⟩, nextSerial := serialAfter c.nextSerial },
      [.tbcOrder
        (match kind with
        | .step => .stepBid c.nextSerial
        | .claim b => .bid c.nextSerial k b)])

/-- R153: the excess: the largest S of the draw history less K, rounded up to a multiple of 10, 0 when not positive. -/
def Clu.excess (c : Clu) : Nat := up10Div (c.draws.foldl max 0 - c.claim) 1

/-- R153: the proposed K of the top-up wish, while it stands. -/
def State.topupWish (s : State) : Option Nat :=
  let c := s.clu
  if c.kf != 0 && c.kc == 0 && c.pendingCeiling.isNone && c.kf < s.figs.r && c.topup.isNone && s.ptu.notice then
    some (min s.figs.r (c.kf + c.excess + 50))
  else none

/-- R156: the step test. -/
def State.stepTest (s : State) : Bool :=
  s.tbc.peers.all (fun p => !p.stepFlag && p.stepHold.isNone) &&
    s.clu.stepList.all (fun r => r.bid.isNone && r.hold.isNone)

/-- R146: the first waiting wish, in the order step request, floor request, charge target, top-up. -/
def State.firstWish (s : State) : Option (OwnKind × Nat) :=
  let c := s.clu
  if c.stepReq then some (.step, 0)
  else if c.floorReq.isSome && c.kf == 0 then some (.claim .floor, c.pendingFloor.getD 0)
  else
    match c.chargeWish, s.topupWish with
    | some k, _ => some (.claim .charge, k)
    | none, some k => some (.claim .topup, k)
    | none, none => none

/-- R146: the test a wish needs. -/
def State.wishPasses (kind : OwnKind) (k : Nat) (s : State) : Bool :=
  match kind with
  | .step => s.stepTest
  | .claim _ => s.ownTest k

/-- R152: at an attempt point the pending floor is taken afresh from Fr while the floor request stands. -/
def Clu.refreshFloor (fr : Nat) (c : Clu) : Clu :=
  if c.floorReq.isSome && c.kf == 0 && c.bid.isNone then { c with pendingFloor := some fr } else c

/-- R146: an attempt point. -/
def Clu.attempt (s : State) : Out :=
  (Clu.put (s.clu.refreshFloor s.shc.fr) s).andThen fun s =>
    if s.bidBlocked then (s, [])
    else
      match s.firstWish with
      | some (kind, k) => if s.wishPasses kind k then Clu.makeBid kind k s else (s, [])
      | none => (s, [])

/-- The attempt point that ends of peers' holds and step bids make for a waiting step request (R146, R158). -/
def Clu.stepAttempt (c : Clu) : List Handoff := if c.stepReq then [.cluAttempt] else []

/-- R149: the own bid ends without commit and without backoff when `ends` names its kind; its end is an attempt
point. -/
def Clu.endBid (ends : OwnKind → Bool) (c : Clu) : Clu × List Handoff :=
  match c.bid with
  | some b => if ends b.kind then ({ c with bid := none }, [.cluAttempt]) else (c, [])
  | none => (c, [])

def OwnKind.isClaim : OwnKind → Bool
  | .step => false
  | .claim _ => true

/-- R149: the onset of BUS-LOST or of DUPLICATE ends the own bid. -/
def Clu.abandon (s : State) : Out :=
  let e := s.clu.endBid fun _ => true
  (s.setClu e.1, e.2)

/-- R147: the completion of an own BID or STEP-BID opens its window; that of an ended bid changes nothing (R149). -/
def Clu.openWindow (serial : Nat) (step : Bool) (c : Clu) : Clu :=
  match c.bid with
  | some b =>
    if b.serial = serial && b.window.isNone && (b.kind == .step) == step then
      { c with bid := some { b with window := some 250 } }
    else c
  | none => c

/-- R148: the own window expires with the bid still OPEN. -/
def Clu.windowExpired (s : State) : Out :=
  match s.clu.bid with
  | some b => if b.window.isSome then Clu.commit b.kind b.k s else (s, [])
  | none => (s, [])

/-- R146: the backoff timer expires. -/
def Clu.backoffExpired (s : State) : Out :=
  if s.clu.backoff.isSome then (s.setClu { s.clu with backoff := none }, [.cluAttempt]) else (s, [])

/-! ### Objections -/

/-- R151: the objected mark set on the open bid of serial `serial`. -/
def Peer.objected (serial : Nat) (p : Peer) : Peer :=
  { p with bid := p.bid.map fun b => if b.serial = serial then { b with objected := true } else b }

/-- R157: the objected mark set on the open step bid of serial `serial`. -/
def StepRec.objected (serial : Nat) (r : StepRec) : StepRec :=
  { r with bid := r.bid.map fun b => if b.serial = serial then { b with objected := true } else b }

/-- R151, R157: an OBJECT that names berth `b` marks its open bid or open step bid of that serial. -/
def State.markObjected (b serial : Nat) (s : State) : State :=
  (s.setTbc { s.tbc with peers := updatePeer b (Peer.objected serial) s.tbc.peers }).setClu
    { s.clu with
      stepList := s.clu.stepList.map fun r => if r.berth == b then r.objected serial else r }

/-- R148, R151: an OBJECT of another station. One that names the own OPEN bid abandons it and starts the backoff; the
end of the bid is an attempt point, which the backoff blocks. -/
def Clu.onObject (bidder serial : Nat) (s : State) : Out :=
  if bidder = s.own then
    match s.clu.bid with
    | some b =>
      if b.window.isSome && b.serial == serial then
        (s.setClu { s.clu with bid := none, backoff := some (2000 + 100 * s.own) }, [.cluAttempt])
      else (s, [])
    | none => (s, [])
  else (s.markObjected bidder serial, [])

/-- R147, R149, R151: the completion of an own BID, STEP-BID or OBJECT. -/
def Clu.onCompleted (b : TxBody) (s : State) : Out :=
  match b with
  | .bid serial _ _ => (s.setClu (s.clu.openWindow serial false), [])
  | .stepBid serial => (s.setClu (s.clu.openWindow serial true), [])
  | .object bidder serial _ => (s.markObjected bidder serial, [])
  | .stepFree | .status | .reply _ => (s, [])

/-- R150, R157: the conditions under which the claim unit orders no objection. -/
def State.objectsNot (s : State) : Bool := s.csq.state == .start || s.tbc.duplicate

/-! ### Peer bids -/

/-- R151: the open bid of an entry ends: adopted unless objected to, and removed. DESIGN CHOICE (log entry 68): the
FLOOR-PENDING flag of the entry and its floor's pending mark are one field, so an adoption of kind FLOOR or TOPUP clears
both. -/
def Peer.endBid (p : Peer) : Peer :=
  match p.bid with
  | none => p
  | some b =>
    if b.objected then { p with bid := none }
    else
      match b.kind with
      | .charge => { p with bid := none, k := b.k }
      | .floor | .topup => { p with bid := none, k := b.k, floor := b.k, floorPending := false }

/-- Has berth `b` an open bid? -/
def State.peerBidOpen (b : Nat) (s : State) : Bool := (findPeer b s.tbc.peers).any fun p => p.bid.isSome

/-- R151: the window end of berth `b`'s open bid, an attempt point. -/
def Clu.peerWindowEnd (b : Nat) (s : State) : Out :=
  if s.peerBidOpen b then
    (s.setTbc { s.tbc with peers := updatePeer b Peer.endBid s.tbc.peers }, [.cluAttempt])
  else (s, [])

/-- R150: an earlier open bid ends as at its window end, and the new one is recorded. -/
def Peer.recordBid (serial k : Nat) (kind : BidKind) (p : Peer) : Peer :=
  { p.endBid with bid := some ⟨serial, k, kind, false, 250⟩ }

/-- R135, R150: a BID from berth `b`. -/
def Clu.onBid (b serial k : Nat) (kind : BidKind) (s : State) : Out :=
  let earlier := s.peerBidOpen b
  let s := s.withEntry b
  let s := s.setTbc { s.tbc with peers := updatePeer b (Peer.recordBid serial k kind) s.tbc.peers }
  let present := ((findPeer b s.tbc.peers).map (·.k)).getD 0
  (s,
    (if !s.peerTest b k && !s.objectsNot && present < k then [.tbcOrder (.object b serial .noRoom)] else []) ++
      (if earlier then [.cluAttempt] else []))

/-! ### Floor requests -/

/-- R152: the sequencer's floor request. -/
def Clu.requestFloor (s : State) : Out :=
  Clu.put { s.clu with floorReq := some 0, pendingFloor := some s.shc.fr } s

/-- R152, R155: the sequencer withdraws the floor request; a floor held stays. -/
def Clu.withdrawFloor (s : State) : Out :=
  let e := s.clu.endBid fun k => k == .claim .floor
  (Clu.put { e.1 with floorReq := none, pendingFloor := none, budgetWait := false } s).emit e.2

/-- R152: the floor request has stood for more than 60 s without a floor held. -/
def Clu.budgetWaits (s : State) : Out :=
  if s.clu.floorReq.isSome && s.clu.kf == 0 then Clu.put { s.clu with budgetWait := true } s else (s, [])

/-- R152: *waiting*, handed to the panel interface for the WAIT lamp. -/
def Clu.waiting (c : Clu) : Bool := c.floorReq.isSome || c.stepReq

/-! ### Lowering and release -/

/-- R154: a lower target with no lowering pending, or one below the pending ceiling. -/
def Clu.lower (target grace : Nat) (c : Clu) : Clu :=
  match c.pendingCeiling with
  | none => { c with pendingCeiling := some target, grace := some (grace * 1000), lowRun := 0 }
  | some p => if target < p then { c with pendingCeiling := some target, lowRun := 0 } else c

/-- R153: the decision of a share pass (log entry 19 on the charge wish that waits). -/
def Clu.decide (d : Decision) (s : State) : Out :=
  match d with
  | .none | .noChange => (s.setClu { s.clu with chargeWish := none }, [])
  | .raise k =>
    if s.clu.pendingCeiling.isNone && s.clu.bid.isNone then (s.setClu { s.clu with chargeWish := some k }, [])
    else (s, [])
  | .lower target =>
    if s.clu.bid.isSome then (s.setClu { s.clu with chargeWish := none }, [])
    else Clu.put ({ s.clu with chargeWish := none }.lower target s.figs.grace) s

/-- R154: a lowering ends. -/
def Clu.lowered (c : Clu) : Clu :=
  match c.pendingCeiling with
  | some p => { c with kc := p - c.kf, pendingCeiling := none, grace := none }
  | none => c

/-- R154: the grace timer expires. -/
def Clu.graceExpired (s : State) : Out :=
  if s.clu.grace.isSome then Clu.put { s.clu.lowered with grace := none } s else (s, [])

/-- R153: the S of the last 50 accepted sets. -/
def pushDraw (draws : List Nat) (x : Nat) : List Nat :=
  (if draws.length ≥ 50 then draws.drop 1 else draws) ++ [x]

/-- R153, R154: an accepted set at the claim unit: the draw history, and the low-draw run of a lowering. -/
def Clu.onSet (r : ReadingSet) (s : State) : Out :=
  let c := { s.clu with draws := pushDraw s.clu.draws r.s }
  match c.pendingCeiling with
  | none => (s.setClu c, [])
  | some p =>
    if r.s ≤ p then
      let c := { c with lowRun := min 5 (c.lowRun + 1) }
      if c.lowRun = 5 then Clu.put c.lowered s else (s.setClu c, [])
    else (s.setClu { c with lowRun := 0 }, [])

/-- R153: the top-up timer expires. -/
def Clu.topupExpired (s : State) : Out := (s.setClu { s.clu with topup := none }, [])

/-- Is there nothing that a release would give up (R155)? -/
def Clu.nothingToRelease (c : Clu) : Bool :=
  c.claim == 0 && c.floorReq.isNone && c.pendingFloor.isNone && c.pendingCeiling.isNone &&
    !(c.bid.any fun b => b.kind.isClaim)

/-- R155: a release of the claim. DESIGN CHOICE (log entry 20): it ends a standing floor request, and leaves standing a step
request that no withdrawal has ended. -/
def Clu.release (s : State) : Out :=
  if s.clu.nothingToRelease then (s, [])
  else
    let e := s.clu.endBid OwnKind.isClaim
    (Clu.put
      { e.1 with
        kf := 0, kc := 0, pendingFloor := none, pendingCeiling := none, grace := none, lowRun := 0, floorReq := none
        budgetWait := false, chargeWish := none } s).emit e.2

/-! ### The step slot -/

/-- R156: the sequencer's step request. -/
def Clu.requestStep (s : State) : Out := (s.setClu { s.clu with stepReq := true }, [])

/-- R156: the sequencer withdraws the step request. -/
def Clu.withdrawStep (s : State) : Out :=
  let e := s.clu.endBid fun k => k == .step
  (s.setClu { e.1 with stepReq := false }, e.2)

/-- R159: the own slot is freed. -/
def Clu.freeStep (s : State) : Out :=
  if s.clu.stepHeld then
    (Clu.put { s.clu with stepHeld := false } s).emit [.bkdSlot false, .tbcOrder .stepFree]
  else (s, [])

/-- R157: does a peer other than `b` show STEP-HELD or have a step hold recorded? -/
def State.otherHolds (b : Nat) (s : State) : Bool :=
  s.tbc.peers.any (fun p => p.berth != b && (p.stepFlag || p.stepHold.isSome)) ||
    s.clu.stepList.any fun r => r.berth != b && r.hold.isSome

/-- R157: the reason to object to a STEP-BID of berth `b`, if there is one. -/
def State.stepObjection (b : Nat) (s : State) : Option ObjectReason :=
  if s.objectsNot then none
  else if s.clu.stepHeld || s.otherHolds b then some .stepHeld
  else if s.clu.stepBidOpen || s.clu.stepList.any (fun r => r.berth != b && r.bid.isSome) then some .stepEarlier
  else none

/-- R157: a STEP-BID from berth `b`. -/
def Clu.onStepBid (b serial : Nat) (s : State) : Out :=
  let s := s.setClu
    { s.clu with stepList := updateStep b (fun r => { r with bid := some ⟨serial, 250, false⟩ }) s.clu.stepList }
  (s,
    match s.stepObjection b with
    | some reason => [.tbcOrder (.object b serial reason)]
    | none => [])

/-- The open step bid of berth `b`. -/
def State.stepBidOf (b : Nat) (s : State) : Option StepBidRec := (findStep b s.clu.stepList).bind (·.bid)

/-- Is a step hold of berth `b` recorded, in its entry or in the step list? -/
def State.holdRecorded (b : Nat) (s : State) : Bool :=
  ((findPeer b s.tbc.peers).any fun p => p.stepHold.isSome) ||
    (findStep b s.clu.stepList).any fun r => r.hold.isSome

/-- R157: a step hold of berth `b` is recorded from now on, in the peer entry where there is one. -/
def State.recordHold (b : Nat) (s : State) : State :=
  match findPeer b s.tbc.peers with
  | some _ =>
    s.setTbc { s.tbc with peers := updatePeer b (fun p => { p with stepHold := some s.csq.clockMs }) s.tbc.peers }
  | none =>
    s.setClu
      { s.clu with stepList := updateStep b (fun r => { r with hold := some s.csq.clockMs }) s.clu.stepList }

/-- The open step bid of berth `b` is removed. -/
def State.dropStepBid (b : Nat) (s : State) : State :=
  s.setClu { s.clu with stepList := updateStep b (fun r => { r with bid := none }) s.clu.stepList }

/-- R157: the window end of berth `b`'s open step bid, an attempt point for a waiting step request. -/
def Clu.stepWindowEnd (b : Nat) (s : State) : Out :=
  match s.stepBidOf b with
  | none => (s, [])
  | some r => (if r.objected then s.dropStepBid b else (s.dropStepBid b).recordHold b, s.clu.stepAttempt)

/-- R158: the step hold of berth `b` ends, wherever it is kept. DEDUCED (log entry 11): the STEP-HELD flag its entry
shows goes with it, as the sequence of section 9.9.3 needs. -/
def State.endHold (b : Nat) (s : State) : State :=
  (s.setTbc
    { s.tbc with peers := updatePeer b (fun p => { p with stepHold := none, stepFlag := false }) s.tbc.peers }).setClu
    { s.clu with stepList := updateStep b (fun r => { r with hold := none }) s.clu.stepList }

/-- R158: a STEP-FREE from berth `b`. -/
def Clu.onStepFree (b : Nat) (s : State) : Out :=
  if s.holdRecorded b then (s.endHold b, s.clu.stepAttempt)
  else if (s.stepBidOf b).isSome then (s.dropStepBid b, s.clu.stepAttempt)
  else (s, [])

/-- R158: a filed STATUS of berth `b` without STEP-HELD ends its step hold. -/
def Clu.onStatus (b : Nat) (s : State) : Out :=
  if s.holdRecorded b && !((findPeer b s.tbc.peers).any fun p => p.stepFlag) then (s.endHold b, s.clu.stepAttempt)
  else (s, [])

/-- R158: 300 s have passed since the start of berth `b`'s step hold. -/
def Clu.holdExpired (b : Nat) (s : State) : Out :=
  if s.holdRecorded b then (s.endHold b, s.clu.stepAttempt) else (s, [])

end Sys2Proof.Machine
end

