-- ==== Sys2Proof/Machine/Share.lean ====
section
/-!
DEFINITION. The share calculator (SHC): floor request, urgency, charge demand, pool, ranking, target, decision and the
count of energy delivered (R162 to R171).
-/

namespace Sys2Proof.Machine

/-- R163: the floor request: H × 11 / 10, rounded up to a multiple of 10, reduced to R, raised to 10. -/
def floorRequest (h r : Nat) : Nat := max 10 (min r (up10Div (h * 11) 10))

/-- R163: H has changed, or the load has ended. -/
def Shc.refreshFloor (s : State) : Out := (s.setShc { s.shc with fr := floorRequest s.slc.h s.figs.r }, [])

/-- R164: the minutes to departure remaining. -/
def State.timeRemaining (s : State) : Option Nat :=
  s.slc.t0.map fun t0 =>
    t0 - secondsSince s.csq.runTime (s.slc.t0Receipt.getD s.csq.runTime) / 60

/-- R164: the required rate. -/
def requiredRate (e t : Option Nat) : Nat :=
  match e, t with
  | none, _ => 0
  | some 0, _ => 0
  | some _, none => 0
  | some _, some 0 => 65535
  | some e, some t => min 65535 (divUp (e * 60) t)

/-- R164: the urgency code. -/
def urgency (u : Nat) : Nat := min 255 (divUp u 20)

/-- R165: the own floor. -/
def Clu.ownFloor (c : Clu) : Nat := if c.kf = 0 then c.pendingFloor.getD 0 else c.kf

/-- R165: the states in which the charge demand is 0. -/
def SeqState.noDemand : SeqState → Bool
  | .start | .vacant | .hooked | .isolating | .lockout => true
  | .proving | .ready | .syncing | .deadwait | .parallel | .shore | .releaseWait | .handback | .unloading => false

/-- R165: the charge demand. -/
def State.chargeDemand (s : State) : Nat :=
  if s.slc.e.getD 0 = 0 || s.slc.c = 0 || s.csq.state.noDemand then 0
  else down10 (min s.slc.c (s.figs.r - s.clu.ownFloor))

/-- R166: what an entry sets aside: the floor of a LIVE peer, the whole K of a STALE one. -/
def Peer.setAside (p : Peer) : Nat := if p.live then p.floor else p.k

/-- R166: the pool. DESIGN CHOICE (log entry 18): the exact difference, however far below 0. -/
def State.poolNow (s : State) : Int :=
  (s.avail : Int) - (s.clu.ownFloor + (s.tbc.peers.map Peer.setAside).sum)

/-- A candidate of the ranking (R167). -/
structure Candidate where
  berth : Nat
  uq : Nat
  cd : Nat
  deriving DecidableEq, Repr

/-- R167: the order of candidates: Uq, highest first, then berth number, lowest first. -/
def Candidate.before (a b : Candidate) : Bool := b.uq < a.uq || (a.uq == b.uq && a.berth < b.berth)

/-- A candidate takes its place in the order. -/
def rankIn (a : Candidate) : List Candidate → List Candidate
  | [] => [a]
  | b :: rest => if a.before b then a :: b :: rest else b :: rankIn a rest

/-- The candidates in their order. -/
def ranked (l : List Candidate) : List Candidate := l.foldr rankIn []

/-- R167: the candidates: every LIVE peer with Cd above 0, and the own berth if its Cd is above 0. -/
def candidates (own uq cd : Nat) (peers : List Peer) : List Candidate :=
  (if 0 < cd then [⟨own, uq, cd⟩] else []) ++
    (peers.filter fun p => p.live && decide (0 < p.cd)).map fun p => ⟨p.berth, p.uq, p.cd⟩

/-- R167: the walk: each candidate is given the lesser of its Cd and the remaining pool; the answer is what the berth
`own` is given. -/
def walkShare (own : Nat) : List Candidate → (pool : Nat) → Nat
  | [], _ => 0
  | a :: rest, pool => if a.berth = own then min a.cd pool else walkShare own rest (pool - min a.cd pool)

/-- R166: Tc is 0 and the ranking is not walked. -/
def State.targetForcedZero (pool : Int) (s : State) : Bool :=
  pool ≤ 0 || !(s.csq.state == .shore || s.csq.state == .releaseWait) || s.slc.holdExpired || s.overcommitted

/-- R168: the own target charge part. -/
def State.ownTarget (uq cd : Nat) (pool : Int) (s : State) : Nat :=
  if s.targetForcedZero pool then 0
  else
    down10 (min (walkShare s.own (ranked (candidates s.own uq cd s.tbc.peers)) pool.toNat) (s.figs.r - s.clu.kf))

/-- R169: the decision of a pass. -/
def decideShare (tc : Nat) (c : Clu) : Decision :=
  if tc < c.kc then .lower (c.kf + tc)
  else if c.kc + 50 ≤ tc then .raise (c.claim + min (tc - c.kc) 500)
  else .noChange

/-- R162 to R169: the figures that a share pass leaves. -/
def State.sharePass (s : State) : Shc :=
  let t := s.timeRemaining
  let u := requiredRate s.slc.e t
  let uq := urgency u
  let cd := s.chargeDemand
  let pool := s.poolNow
  let tc := s.ownTarget uq cd pool
  { s.shc with
    t := t, u := u, uq := uq, cd := cd, pool := pool, tc := tc, decision := decideShare tc s.clu }

/-- R165, R164: the SHC takes the values `h`; a changed Cd or Uq is presented to the bus controller. -/
def Shc.put (h : Shc) (s : State) : Out :=
  (s.setShc h, if h.cd != s.shc.cd || h.uq != s.shc.uq then [.tbcStatus] else [])

/-- R162, R169: a share pass: changed figures are presented, the decision is handed to the claim unit, and the end of
the pass is an attempt point. Passes run from the end of a successful load. -/
def Shc.runPass (s : State) : Out :=
  if s.running then (Shc.put s.sharePass s).emit [.cluDecision s.sharePass.decision, .cluAttempt] else (s, [])

/-- R162: SHORE or RELEASE-WAIT. -/
def SeqState.sharing : SeqState → Bool
  | .shore | .releaseWait => true
  | .start | .vacant | .hooked | .proving | .ready | .syncing | .deadwait | .parallel | .handback | .unloading
  | .isolating | .lockout => false

/-- R162, R165, R170: a sequencer state change: a pass where SHORE or RELEASE-WAIT is entered or left, else Cd alone;
entry to PROVING sets the energy count to 0. DESIGN CHOICE (log entry 64): there is one Cd, so the summary shows the
re-evaluated one before the next pass. -/
def Shc.onSeq (old new : SeqState) (s : State) : Out :=
  let s := if new == .proving then s.setShc { s.shc with energy := 0, subAcc := 0 } else s
  if old.sharing || new.sharing then Shc.runPass s else Shc.put { s.shc with cd := s.chargeDemand } s

/-- R162: the pass timer of solitary mode expires. -/
def Shc.passExpired (s : State) : Out :=
  if s.shc.pass.isSome then Shc.runPass (s.setShc { s.shc with pass := some 1000 }) else (s, [])

/-- R170: P added to the energy counts. -/
def Shc.addEnergy (p : Nat) (h : Shc) : Shc :=
  if 180000 ≤ h.subAcc + p then
    { h with energy := min 65535 (h.energy + 1), subAcc := h.subAcc + p - 180000 }
  else { h with subAcc := h.subAcc + p }

/-- R170: an accepted set at the share calculator. -/
def Shc.onSet (r : ReadingSet) (s : State) : Out :=
  if 0 < r.p && s.bkd.state != .opened then (s.setShc (s.shc.addEnergy r.p.toNat), []) else (s, [])

end Sys2Proof.Machine
end

