-- ==== Sys2Proof/Machine/Panel.lean ====
section
/-!
DEFINITION. The panel interface (PNL): validators, refusal flash, pattern clock and lamps (R172 to R175). The attention
unit (ATU): status set and output (R176, R177). The levels of the output lines (section 1.6).
-/

namespace Sys2Proof.Machine

/-! ### Buttons -/

/-- The validator of a button. -/
def Pnl.validator (p : Pnl) : Button → Validator
  | .connect => p.connect
  | .release => p.release
  | .ack => p.ack

/-- The panel interface with the validator of a button replaced. -/
def Pnl.setValidator (p : Pnl) (b : Button) (v : Validator) : Pnl :=
  match b with
  | .connect => { p with connect := v }
  | .release => { p with release := v }
  | .ack => { p with ack := v }

/-- The input line of a button. -/
def Pins.setButton (p : Pins) (b : Button) (pressed : Bool) : Pins :=
  match b with
  | .connect => { p with connect := pressed }
  | .release => { p with release := pressed }
  | .ack => { p with ack := pressed }

/-- R172: a validator sees its button pressed at running time `now`, in ms. -/
def Validator.pressedAt (now : Nat) (v : Validator) : Validator :=
  match v.state with
  | .idle => { v with state := .settling, settle := some 50, since := now, reported := false }
  | .settling => v
  | .held | .lockedOut => { v with letgo := none }

/-- R172: a validator sees its button let go. -/
def Validator.letGo (v : Validator) : Validator :=
  match v.state with
  | .idle => v
  | .settling => { v with state := .idle, settle := none }
  | .held | .lockedOut => { v with letgo := some (v.letgo.getD 50) }

/-- R172: a button is pressed or let go. -/
def Pnl.button (b : Button) (pressed : Bool) (s : State) : Out :=
  let s := s.setPins (s.pins.setButton b pressed)
  if s.running then
    let v := s.pnl.validator b
    (s.setPnl (s.pnl.setValidator b (if pressed then v.pressedAt s.csq.clockMs else v.letGo)), [])
  else (s, [])

/-- R172: the 50 ms settle count of a button completes: the press is reported by `report`. DESIGN CHOICE (log entry 29):
a press is reported from SETTLING only. -/
def Pnl.press (b : Button) (report : State → Out) (s : State) : Out :=
  let v := s.pnl.validator b
  if v.settle.isSome then report (s.setPnl (s.pnl.setValidator b { v with state := .held, settle := none }))
  else (s, [])

/-- R173: a button in HELD has been held for its time: `report` is made once per press. -/
def Pnl.held (b : Button) (report : State → Out) (s : State) : Out :=
  let v := s.pnl.validator b
  if v.state == .held && !v.reported then
    report (s.setPnl (s.pnl.setValidator b { v with reported := true }))
  else (s, [])

/-- R172: a let-go count completes. -/
def Pnl.letgoExpired (b : Button) (s : State) : Out :=
  let v := s.pnl.validator b
  if v.letgo.isSome then (s.setPnl (s.pnl.setValidator b Validator.atReset), []) else (s, [])

/-- R172: the validator of a button found pressed, or not, at the end of the load. -/
def Validator.atLoad (pressed : Bool) : Validator :=
  if pressed then { Validator.atReset with state := .lockedOut } else Validator.atReset

/-! ### The refusal flash and the pattern clock -/

/-- R175: the sequencer hands over a refusal: the flash starts from its first flash. -/
def Pnl.refused (s : State) : Out :=
  if s.running then
    (s.setPnl { s.pnl with flash := some 750, flashToggle := some 125, flashLit := true }, [])
  else (s, [])

/-- R175: the flash's own timing lights or darkens it. -/
def Pnl.flashToggled (s : State) : Out :=
  if s.pnl.flash.isSome && s.pnl.flashToggle.isSome then
    (s.setPnl { s.pnl with flashToggle := some 125, flashLit := !s.pnl.flashLit }, [])
  else (s.setPnl { s.pnl with flashToggle := none }, [])

/-- R175: the flash ends. -/
def Pnl.flashEnds (s : State) : Out :=
  (s.setPnl { s.pnl with flash := none, flashToggle := none, flashLit := false }, [])

/-- R174: the pattern clock changes phase; it has eight phases of 125 ms. -/
def Pnl.tick (s : State) : Out :=
  if s.pnl.clockTimer.isSome then
    (s.setPnl { s.pnl with clock := (s.pnl.clock + 1) % 8, clockTimer := some 125 }, [])
  else (s, [])

/-! ### Lamps -/

/-- A lamp pattern of R174. -/
inductive Pattern where
  | dark | steady | slow | fast
  deriving DecidableEq, Repr

/-- R174: is a lamp of this pattern lit at this phase of the clock? -/
def Pattern.lit (clock : Nat) : Pattern → Bool
  | .dark => false
  | .steady => true
  | .slow => clock % 8 < 4
  | .fast => clock % 2 == 0

/-- R174: the SHORE lamp. -/
def State.shoreLamp (s : State) : Pattern :=
  match s.csq.state with
  | .shore => .steady
  | .proving | .ready | .syncing | .deadwait | .parallel | .releaseWait | .handback | .unloading => .slow
  | .isolating => if s.csq.tripIso then .fast else .dark
  | .start | .vacant | .hooked | .lockout => .dark

/-- R174: the PLUGS lamp. -/
def State.plugsLamp (s : State) : Pattern :=
  if s.psm.setState == .complete then .steady
  else if s.psm.setState == .partSet || s.psm.plugs.anyIn s.figs.np (fun q => q.pilot == .validating) then .slow
  else .dark

/-- R174: the TRIP lamp. -/
def State.tripLamp (s : State) : Pattern :=
  if s.csq.state == .lockout then .fast else if !s.ptu.latched.isEmpty then .steady else .dark

/-- R175: the WAIT lamp outside a refusal flash. -/
def State.waitLamp (s : State) : Pattern := if s.clu.waiting then .slow else .dark

/-- R174, R175: is a lamp lit? Dark to the end of loading, fast in CONFIG-FAULT. DESIGN CHOICE (log entry 27): the
pattern clock runs in CONFIG-FAULT too. -/
def State.lampLit (p : Pattern) (s : State) : Bool :=
  match s.cfl.stage with
  | .reset | .loading => false
  | .configFault => Pattern.fast.lit s.pnl.clock
  | .running => p.lit s.pnl.clock

/-- R175: is the WAIT lamp lit? -/
def State.waitLit (s : State) : Bool :=
  if s.running && s.pnl.flash.isSome then s.pnl.flashLit else s.lampLit s.waitLamp

/-! ### The attention unit -/

/-- Section 11.3: is the source of a status present? -/
def State.sourcePresent (s : State) : Status → Bool
  | .tripLatched => !s.ptu.latched.isEmpty
  | .lockout => s.csq.state == .lockout
  | .masked => s.csq.mask
  | .budgetWait => s.clu.budgetWait
  | .linkLost => s.slc.link == .lost || s.slc.link == .incompatible
  | .busLost => s.tbc.busLost
  | .cableLive => s.csq.cableLive
  | .duplicate => s.tbc.duplicate
  | .resultWaiting => !s.csq.log.isEmpty

/-- The sources present. -/
def State.presentSources (s : State) : List Status := Status.all.filter s.sourcePresent

/-- R176: a status is set at each onset of its source and cleared when its source goes. R177: in PULSE mode, the
setting of an enabled status starts a pulse of 100 ms. -/
def Atu.take (now : List Status) (f : Figures) (a : Atu) : Atu :=
  { statuses := now.filter fun x => a.statuses.contains x || !a.present.contains x
    present := now
    pulse :=
      if f.pulseMode && now.any (fun x => !a.present.contains x && Status.named f.enable x) then some 100
      else a.pulse }

/-- R176: the attention unit takes the sources as they are presented now. -/
def Atu.evaluate (s : State) : Out :=
  if s.running then (s.setAtu (s.atu.take s.presentSources s.figs), []) else (s, [])

/-- R176: CLEAR-ATTENTION. -/
def Atu.clear (named : BitVec 16) (s : State) : Out :=
  (s.setAtu { s.atu with statuses := s.atu.statuses.filter fun x => !Status.named named x }, [])

/-- R177: the pulse ends. -/
def Atu.pulseEnds (s : State) : Out := (s.setAtu { s.atu with pulse := none }, [])

/-- R177: is ATTENTION asserted? -/
def State.attentionOn (s : State) : Bool :=
  match s.cfl.stage with
  | .reset | .loading => false
  | .configFault => true
  | .running =>
    if s.figs.pulseMode then s.atu.pulse.isSome else s.atu.statuses.any (Status.named s.figs.enable)

/-! ### Output lines -/

/-- R4, R10: the LATCH output of a plug: undriven to the end of loading, in CONFIG-FAULT, and above Np. -/
def State.latchLine (i : PlugNo) (s : State) : Option Bool :=
  if s.psm.driven && inPlugSet s.figs.np i then some (s.psm.plugs.get i).engaged else none

/-- The levels of the output lines in a state. -/
def State.lines (s : State) : Lines :=
  { latch := ⟨s.latchLine .p1, s.latchLine .p2, s.latchLine .p3, s.latchLine .p4⟩
    eswClose := s.esd.driving && s.esd.dir == .toClosed
    eswOpen := s.esd.driving && s.esd.dir == .toOpen
    close := s.bkd.closePulse.isSome
    hold := s.bkd.hold
    trip := s.bkd.tripPulse.isSome
    upstream := s.bkd.upstream
    lampShore := s.lampLit s.shoreLamp
    lampPlugs := s.lampLit s.plugsLamp
    lampTrip := s.lampLit s.tripLamp
    lampWait := s.waitLit
    attention := s.attentionOn
    shipFrame := s.slc.sending.map ShipMsg.frame }

/-- The output lines follow the state. -/
def State.refresh (s : State) : State := s.setOut s.lines

end Sys2Proof.Machine
end

