-- ==== Sys2Proof/Machine/Supervisory.lean ====
section
/-!
DEFINITION. The supervisory items (R178, R179), their encoding and segments (R183, R184), and the queries that read
them (R140). DESIGN CHOICE (log entry 65): a bit that section 12.7 neither names nor calls fill, in a byte of which it names
others, is sent as 0, in every item.
-/

namespace Sys2Proof.Machine

/-- A bit of weight `w` in a flags byte. -/
def flag (b : Bool) (w : Nat) : Nat := if b then w else 0

/-! ### Items -/

/-- Summary page 0, berth. The bits of the flags, link and counts bytes that have no name are 0 (log entry 65). -/
def State.page0 (s : State) : List Byte :=
  beBytes 1 0 ++ beBytes 1 s.csq.state.code ++ beBytes 1 s.csq.sub.code ++ beBytes 2 s.clu.claim ++
    beBytes 2 s.clu.kf ++ beBytesOpt 2 s.clu.pendingFloor ++ beBytesOpt 2 s.clu.pendingCeiling ++
    beBytes 2 s.spv.stability ++ beBytes 1 (flag s.spv.proven 1 + flag s.csq.mask 2) ++
    beBytes 1 (s.slc.link.code + 16 * s.slc.incompat.code) ++ beBytes 2 (statusBits s.atu.statuses) ++
    beBytes 1 (s.csq.retry + 16 * s.csq.closeFail) ++ beBytes 4 s.csq.runTime

/-- Summary page 1, breaker and protection. The levels are those of the last accepted set (R103, log entry 58); the bits of
the breaker and plug bytes that have no name are 0 (log entry 65). -/
def State.page1 (s : State) : List Byte :=
  beBytes 1 1 ++ beBytes 1 s.bkd.state.code ++
    beBytes 1
      (s.bkd.reading.code + flag s.bkd.hold 4 + flag s.bkd.upstream 8 + flag s.bkd.antiPump.isSome 16) ++
    beBytes 2 (sourceBits s.ptu.latched) ++ beBytes 1 ((s.ptu.firstOut.map Source.number).getD 0) ++
    beBytes 4 s.ptu.acc ++ beBytes 4 (levelOne s.ptu.levelK) ++ beBytes 4 (levelTwo s.ptu.levelK) ++
    beBytes 1 s.esd.state.code ++
    beBytes 1 (s.psm.setState.code + flag s.psm.live 4 + flag s.psm.dead1s 8)

/-- Summary page 2, synchronism and bus. The bits of the flags byte that have no name are 0 (log entry 65). -/
def State.page2 (s : State) : List Byte :=
  beBytes 1 2 ++ beBytes 1 s.syc.verdict.code ++ beBytesIntOpt s.syc.lastDf ++ beBytesIntOpt s.syc.lastPred ++
    beBytes 1 s.tbc.can.code ++ beBytes 2 s.tbc.txErr ++ beBytes 1 s.tbc.rxErr ++
    beBytes 1 (flag s.tbc.busLost 1 + flag s.tbc.duplicate 2 + flag s.figs.solitary 4) ++
    beBytes 1 s.tbc.peers.length

/-- R184: the decision figure: the lower target, the proposed K, all ones otherwise. -/
def Decision.figure : Decision → Option Nat
  | .lower target => Option.some target
  | .raise k => Option.some k
  | .none | .noChange => Option.none

/-- Summary page 3, share and ship. DESIGN CHOICE (log entry 64): Cd is the one held at the query, re-evaluated at a state
change since the latest pass too (R165), where R162 speaks of the figures as that pass left them. The bits of the ship bus
byte that have no name are 0 (log entry 65). -/
def State.page3 (s : State) : List Byte :=
  beBytes 1 3 ++ beBytesOpt 2 s.shc.t ++ beBytes 2 s.shc.u ++ beBytes 1 s.shc.uq ++ beBytes 2 s.shc.cd ++
    beBytesInt 4 s.shc.pool ++ beBytes 2 s.shc.tc ++ beBytes 1 s.shc.decision.code ++
    beBytesOpt 2 s.shc.decision.figure ++ beBytes 2 s.shc.energy ++ beBytes 2 (s.slc.shipNumber.getD 0) ++
    beBytes 1 (s.slc.shipBus.code + flag s.slc.shipNumber.isNone 128) ++ beBytes 2 s.slc.chargerDraw

/-- R178: a summary page; a page above 3 is "none", the empty string. -/
def State.summary (page : Nat) (s : State) : List Byte :=
  match page with
  | 0 => s.page0
  | 1 => s.page1
  | 2 => s.page2
  | 3 => s.page3
  | _ => []

/-- R179, R96: the latched level sources whose condition is present. -/
def State.presentLatched (s : State) : List Source :=
  s.ptu.latched.filter fun x => x.level && s.conditionPresent x

/-- R179: the trip item. DESIGN CHOICE (log entry 69): a first-out that is none is sent as 0, as on page 1. -/
def State.tripItem (s : State) : List Byte :=
  beBytes 2 (sourceBits s.ptu.latched) ++ beBytes 1 ((s.ptu.firstOut.map Source.number).getD 0) ++
    beBytesOpt 4 s.ptu.firstOutTime ++ beBytes 1 (flag s.ptu.earlierRun 1) ++ beBytes 2 s.ptu.age ++
    beBytes 2 (sourceBits s.presentLatched)

/-- A result field under a presence bit: its value, or what the manual does not state (log entry 42). -/
def resultField (field seq : Nat) (v : Option Nat) : List Byte :=
  beBytes 2 (v.getD (Config.absentResult field seq).toNat)

/-- R179: the result item. The bits of the presence byte that have no name are 0 (log entry 65). -/
def Record.item (r : Record) : List Byte :=
  beBytes 2 r.seq ++ beBytes 1 r.kind.code ++ beBytes 1 r.ending.code ++ beBytes 1 r.cause.code ++
    beBytes 1 r.mode.code ++ beBytes 4 r.start ++ beBytes 2 r.duration ++
    beBytes 1 (flag r.energy.isSome 1 + flag r.residue.isSome 2) ++ resultField 0 r.seq r.energy ++
    resultField 1 r.seq r.residue ++ beBytes 2 r.peak

/-- R179: the oldest record, or "none". -/
def State.resultItem (s : State) : List Byte := (s.csq.log.head?.map Record.item).getD []

/-- R179: the peer item of an entry, at `now` ms of running time. DESIGN CHOICE: with no open bid the proposed K is all ones
(log entry 66); the step hold age is the running time since its start in whole seconds, rounded down (log entry 67); the
bits of the liveness and flags byte that have no name are 0 (log entry 65); the FLOOR-PENDING bit shows the floor's pending
mark, which an adoption clears (log entry 68). -/
def Peer.item (now : Nat) (p : Peer) : List Byte :=
  beBytes 1 p.berth ++
    beBytes 1
      (flag (!p.live) 1 + flag p.startFlag 2 + flag p.floorPending 4 + flag p.stepFlag 8 + flag p.code.isNone 16) ++
    beBytes 1 (p.code.getD 0) ++ beBytes 2 p.k ++ beBytes 2 p.floor ++ beBytes 2 p.cd ++ beBytes 1 p.uq ++
    beBytes 2 p.age ++ beBytes 1 ((p.bid.map fun b => b.kind.code).getD 0) ++
    beBytesOpt 2 (p.bid.map fun b => b.k) ++ beBytesOpt 2 (p.stepHold.map fun t => (now - t) / 1000)

/-- R140, R179: the peer item of berth `n`, or "none". -/
def State.peerItem (n : Nat) (s : State) : List Byte :=
  ((findPeer n s.tbc.peers).map (Peer.item s.csq.clockMs)).getD []

/-! ### Segments -/

/-- R184: the segments of an item's byte string from number `n` on, `more` of them at most besides the last. -/
def segmentsFrom (item : Nat) : (more n : Nat) → List Byte → List (List Byte)
  | 0, n, d => [beBytes 1 item ++ beBytes 1 (n + 128) ++ d]
  | more + 1, n, d =>
    if d.length ≤ 6 then [beBytes 1 item ++ beBytes 1 (n + 128) ++ d]
    else (beBytes 1 item ++ beBytes 1 n ++ d.take 6) :: segmentsFrom item more (n + 1) (d.drop 6)

/-- R184: the segments of an item; the empty string is "none". No item has more than 4. -/
def segments (item : Nat) (d : List Byte) : List (List Byte) := segmentsFrom item 3 0 d

/-- R140: the segments ordered as REPLY frames. -/
def Tbc.reply (segs : List (List Byte)) (t : Tbc) : Tbc := segs.foldl (fun t d => t.order (.reply d)) t

/-- R140: a query of an item whose bytes are `d`: disregarded where its segments find too few free places; otherwise
they are ordered, and `taken` is what the reading itself does. -/
def Tbc.query (item : Nat) (d : List Byte) (taken : State → Out) (s : State) : Out :=
  if s.tbc.queue.length + (segments item d).length ≤ 24 then
    taken (s.setTbc (s.tbc.reply (segments item d)))
  else (s, [])

/-- R37: the sequencer removes the record that was read. -/
def Csq.popRecord (s : State) : Out := (s.setCsq { s.csq with log := s.csq.log.drop 1 }, [.atuSources])

end Sys2Proof.Machine
end

