-- ==== Sys2Proof/Machine/Handoffs.lean ====
section
/-!
DEFINITION. How one command runs through the blocks: each hand-off goes to its block, which answers with hand-offs of
its own (section 1.3), and the conditions that several rules put as "at the first event after which" are looked at when
the command has run its course.
-/

namespace Sys2Proof.Machine

/-- What a block does with a hand-off. -/
def handle (h : Handoff) (s : State) : Out :=
  match h with
  | .psmEngage => Psm.engageRequest s
  | .psmRelease => Psm.releaseRequest s
  | .psmAwaitDead => Psm.awaitDead s
  | .psmLive => Psm.reevaluate s
  | .esdOpen => Esd.openRequest s
  | .esdClose => Esd.closeRequest s
  | .esdWithdraw => Esd.withdraw s
  | .bkdOpen => Bkd.openOrder s
  | .bkdTrip => Bkd.tripOrder s
  | .bkdRetest => Bkd.retest s
  | .bkdClose => Bkd.closeOrder s
  | .bkdSlot held => Bkd.slot held s
  | .bkdSeq old new => Bkd.onSeq old new s
  | .ptuOnset x => Ptu.onset x s
  | .ptuCondition x => Ptu.condition x s
  | .ptuBreaker b => Ptu.onBreaker b s
  | .ptuSeq old new => Ptu.onSeq old new s
  | .spvSeq new => Spv.onSeq new s
  | .sycSeq new => Syc.onSeq new s
  | .sycReady => Syc.onReady s
  | .csqNotice x => Csq.notice x s
  | .csqBreaker b => Csq.onBreaker b s
  | .csqCloseAccepted => Csq.closeAccepted s
  | .csqCloseFailed => Csq.closeFailed s
  | .csqAntiPumpEnded => Csq.antiPumpEnded s
  | .csqLatchesEngaged => (s, [])
  | .csqLatchFail => Csq.latchFail s
  | .csqPlugDisturbed => Csq.plugDisturbed s
  | .csqLatchesReleased => Csq.latchesReleased s
  | .csqSwitch => Csq.onSwitch s
  | .csqFloorHeld => (s, [])
  | .csqSlotHeld => Csq.slotHeld s
  | .csqPermit => Csq.permit s
  | .csqPermitWithdrawn => (s, [])
  | .csqDeadConfirmed => Csq.deadConfirmed s
  | .csqDeadWithdrawn => Csq.deadWithdrawn s
  | .csqNegative => Csq.negative s
  | .csqShoreLoss => Csq.shoreLoss s
  | .csqLinkLoss => Csq.linkLoss s
  | .csqEntered state => Csq.entered state s
  | .slcPlug made => Slc.plug made s
  | .slcOrder m => Slc.orderMsg m s
  | .slcCeiling => Slc.presented s
  | .tbcOrder b => Tbc.orderFrame b s
  | .tbcStatus => Tbc.statusChanged s
  | .cluFloor => Clu.requestFloor s
  | .cluWithdrawFloor => Clu.withdrawFloor s
  | .cluStep => Clu.requestStep s
  | .cluWithdrawStep => Clu.withdrawStep s
  | .cluFreeStep => Clu.freeStep s
  | .cluRelease => Clu.release s
  | .cluAttempt => Clu.attempt s
  | .cluDecision d => Clu.decide d s
  | .cluBusLost => Clu.abandon s
  | .cluDuplicate => Clu.abandon s
  | .cluCompleted b => Clu.onCompleted b s
  | .shcSeq old new => Shc.onSeq old new s
  | .shcFloor => Shc.refreshFloor s
  | .shcPass => Shc.runPass s
  | .pnlRefused => Pnl.refused s
  | .atuSources => Atu.evaluate s

/-- The hand-offs are carried out one at a time; those that one of them makes go before those that wait. DESIGN CHOICE
(log entries 4 and 5): in this order, and `budget` of them at most; at the bound the hold conditions are re-tested
(R70), so that no HOLD stays on without them. -/
def drain : (budget : Nat) → List Handoff → State → State
  | 0, _, s => (Bkd.retest s).1
  | _, [], s => s
  | budget + 1, h :: rest, s => drain budget ((handle h s).2 ++ rest) (handle h s).1

/-- The hand-offs that one drain carries out at most (log entry 5). -/
def drainBudget : Nat := 1000

/-- A block's answer carried through all the hand-offs it makes. -/
def Out.run (o : Out) : State := drain drainBudget o.2 o.1

/-- R6: a pending release request whose interlock has come to hold. DESIGN CHOICE (log entry 50): in LOCKOUT too, for a
request that was made in ISOLATING. -/
def Psm.due (s : State) : Option Out :=
  if s.psm.releasePending && s.releaseInterlock then some (Psm.carryOutRelease s) else none

/-- R12: the ESD's own close request in VACANT with the switch OPEN. -/
def Esd.ownRequest (s : State) : Option Out :=
  if s.csq.state == .vacant && s.esd.state == .opened && s.esd.request != .closing then some (Esd.closeRequest s)
  else none

/-- R129: an own frame goes into its attempt (log entry 14). -/
def Tbc.due (s : State) : Option Out := if s.tbc.attemptDue then some (Tbc.begin s, []) else none

/-- What is due after an event, because its conditions hold together: the first of a travel or a drive output of the
earthing switch (R12 to R14), a latch release (R6), the close request in VACANT (R12), a move of the sequencer (R39,
R43), the attempt of an own frame (R129). DESIGN CHOICE (log entry 6): in this order. -/
def State.due (s : State) : Option Out :=
  (Esd.due s).orElse fun _ => (Psm.due s).orElse fun _ => (Esd.ownRequest s).orElse fun _ =>
    (Csq.due s).orElse fun _ => Tbc.due s

/-- What is due is done until nothing is (log entry 5). -/
def settle : (budget : Nat) → State → State
  | 0, s => s
  | budget + 1, s =>
    match s.due with
    | none => s
    | some o => settle budget o.run

/-- The moves that one command settles at most (log entry 5). -/
def settleBudget : Nat := 50

/-- A command's answer: its hand-offs carried out, then what is due, where a successful load is behind; the output lines
follow. -/
def Out.conclude (o : Out) : State :=
  let s := o.run
  (if s.running then settle settleBudget s else s).refresh

/-- A command's outcome. -/
def Out.outcome (o : Out) : Host.Outcome State Fault Refusal := .next o.conclude

end Sys2Proof.Machine
end

