-- ==== Sys2Proof/Machine/StartUp.lean ====
section
/-!
DEFINITION. Power-on, external reset, configuration loading and the census (R67, R80, R110, R180 to R182), and the
meanings of the commands of the start.
-/

namespace Sys2Proof.Machine

/-! ### The configuration image (section 12.5) -/

/-- A value within a range. -/
def within (lo hi n : Nat) : Bool := lo ≤ n && n ≤ hi

/-- The figures that an image carries. -/
def Figures.ofImage (d : List Byte) : Figures :=
  { np := fieldNat d 1 1, fn := fieldNat d 2 4, vn := fieldNat d 6 2, b := fieldNat d 8 2, m := fieldNat d 10 2
    r := fieldNat d 12 2, allowClosed := fieldNat d 14 1 % 2 == 1, allowOpen := fieldNat d 14 1 / 2 % 2 == 1
    parallelLimit := fieldNat d 15 1, releaseDelay := fieldNat d 16 2, n := fieldNat d 18 2, tClose := fieldNat d 20 1
    vDiff := fieldNat d 21 1, slip := fieldNat d 22 2, angle := fieldNat d 24 2, residual := fieldNat d 26 2
    overcurrent := fieldNat d 28 2, reversePower := fieldNat d 30 2, grace := fieldNat d 32 1
    solitary := fieldNat d 33 1 % 2 == 1, pulseMode := fieldNat d 33 1 / 2 % 2 == 1
    enable := BitVec.ofNat 16 (fieldNat d 34 2) }

/-- R180: every figure is within its range of section 12.5. DESIGN CHOICE (log entry 62): the range 0 to 511 of the enable
mask goes before the fill bits of a set of statuses (section 12.3, R183), so a mask with one of bits 9 to 15 set fails
the load. -/
def Figures.inRange (f : Figures) : Bool :=
  within 1 4 f.np && (f.fn == 50000 || f.fn == 60000) && within 230 15000 f.vn && within 10 60000 f.b &&
    f.m ≤ f.b / 4 && within 100 20000 f.r && within 5 60 f.parallelLimit &&
    (f.releaseDelay == 300 || f.releaseDelay == 900) && within 50 1000 f.n && within 20 200 f.tClose &&
    within 20 100 f.vDiff && within 50 500 f.slip && within 50 300 f.angle && within 30 5000 f.residual &&
    within 50 9990 f.overcurrent && within 10 5000 f.reversePower && within 2 30 f.grace && f.enable.toNat ≤ 511

/-- R180: the checks of an image: its 64 bytes, its CRC, its format code, its allowed modes and every figure. -/
def imageValid (d : List Byte) : Bool :=
  d.length == 64 && d.drop 62 == crcBytes (d.take 62) && fieldNat d 0 1 == 1 && within 1 3 (fieldNat d 14 1) &&
    (Figures.ofImage d).inRange

/-- R180: the load succeeds. -/
def State.loadSucceeds (image : List Byte) (s : State) : Bool := imageValid image && within 1 16 s.own

/-! ### Power-on and external reset -/

/-- R67 and the reset rules of every block: the application of supply. The input lines stand as they are, and the
straps are read (R180, log entry 38). -/
def State.powered (straps : BitVec 5) (s : State) : State :=
  { State.reset with
    pins := s.pins, pending := s.pending, cfl := { Cfl.atReset with berth := straps.toNat } }

/-- R67, R80, R110: RESET is asserted. Kept are the trip record, whose first-out time gets the earlier-run mark; the
result log, the sequence counter and the reset marker; UPSTREAM-TRIP. The running time stands until the load ends. -/
def State.resetAsserted (s : State) : State :=
  { State.reset with
    pins := s.pins
    pending := s.pending
    cfl := { Cfl.atReset with stage := .reset, external := true }
    bkd := { Bkd.atReset with upstream := s.bkd.upstream }
    ptu := { Ptu.atReset with
      latched := s.ptu.latched, firstOut := s.ptu.firstOut, firstOutTime := s.ptu.firstOutTime, age := s.ptu.age
      earlierRun := s.ptu.earlierRun || s.ptu.firstOut.isSome }
    csq := { Csq.atReset with
      log := s.csq.log, seq := s.csq.seq, marker := s.csq.marker, clockMs := s.csq.clockMs } }

/-- R180: RESET is released: the straps are read and a load begins. -/
def State.released (straps : BitVec 5) (s : State) : State :=
  if s.cfl.stage == .reset then s.setCfl { s.cfl with stage := .loading, berth := straps.toNat } else s

/-! ### The end of the load -/

/-- R128, R132, R142, R143: the bus controller at the end of a successful load. -/
def Tbc.atLoad (solitary : Bool) : Tbc :=
  if solitary then { Tbc.atReset with can := .listening }
  else Tbc.order .status { Tbc.atReset with can := .errorActive, period := some 1000 }

/-- R67: the sequencer at the end of a successful load: the running time restarts, and after an external reset the
procedure of the marker is recorded. -/
def Csq.atLoad (external : Bool) (c : Csq) : Csq :=
  let c := { c with clockMs := 0 }
  if external then c.resetRecord else c

/-- R172, R174: the panel interface at the end of a successful load. -/
def Pnl.atLoad (pins : Pins) : Pnl :=
  { Pnl.atReset with
    connect := Validator.atLoad pins.connect, release := Validator.atLoad pins.release
    ack := Validator.atLoad pins.ack, clockTimer := some 125 }

/-- R180, R181: a successful load: every block takes its figures and its values for the end of the load, and the census
begins. A chain found open and a switch found in FAULT have their onsets; every source present has its onset at the
attention unit. -/
def State.loaded (f : Figures) (s : State) : Out :=
  let t : State :=
    { s with
      cfl := { s.cfl with stage := .running, figs := f, census := some 3000 }
      psm := Psm.atLoad f.np s.pins
      esd := Esd.atLoad s.pins
      bkd := Bkd.atLoad s.pins s.bkd
      mtp := { Mtp.atReset with check := some 25 }
      ptu := { s.ptu with eStop := s.pins.eStop }
      csq := s.csq.atLoad s.cfl.external
      tbc := Tbc.atLoad f.solitary
      shc := { Shc.atReset with
        fr := floorRequest s.slc.h f.r, pass := if f.solitary then some 1000 else none }
      pnl := Pnl.atLoad s.pins
      atu := Atu.atReset }
  (t,
    (if t.ptu.eStop then [.ptuOnset .eStop] else []) ++
      (if t.esd.state == .fault then [.ptuOnset .earthingSwitch] else []) ++ [.atuSources])

/-- R180, R143: a failed load: CONFIG-FAULT, with the bus interface listening and the lamps flashing. -/
def State.loadFailed (s : State) : Out :=
  (((s.setCfl { s.cfl with stage := .configFault }).setTbc { s.tbc with can := .listening }).setPnl
    { s.pnl with clock := 0, clockTimer := some 125 }, [])

/-- R180: loading ends. -/
def State.loadEnd (image : List Byte) (s : State) : Out :=
  if s.cfl.stage == .loading then
    if s.loadSucceeds image then s.loaded (Figures.ofImage image) else s.loadFailed
  else (s, [])

/-- R181, R182, R25: the census ends: the presence monitor arms, and the sequencer takes its first working state. -/
def State.censusEnd (s : State) : Out :=
  if s.cfl.census.isSome then
    let s := (s.setCfl { s.cfl with census := none }).setMtp { s.mtp with armed := true }
    if s.csq.state == .start then Csq.firstState s else (s, [])
  else (s, [])

/-! ### Meanings -/

/-- POWER_ON (R67). -/
def execPowerOn (straps : BitVec 5) (s : State) : Host.Outcome State Fault Refusal :=
  .next (s.powered straps).refresh

/-- RESET_ASSERTED (R67). -/
def execResetAsserted (s : State) : Host.Outcome State Fault Refusal := .next s.resetAsserted.refresh

/-- RESET_RELEASED (R180). -/
def execResetReleased (straps : BitVec 5) (s : State) : Host.Outcome State Fault Refusal :=
  .next (s.released straps).refresh

/-- CONFIG_LOAD_END (R180). -/
def execConfigLoadEnd (image : List Byte) (s : State) : Host.Outcome State Fault Refusal :=
  (s.loadEnd image).outcome

/-- CENSUS_TIMER_EXPIRY (R182). -/
def execCensusTimerExpiry (s : State) : Host.Outcome State Fault Refusal := s.censusEnd.outcome

end Sys2Proof.Machine
end

