-- ==== Sys2Proof/Machine/PlugCommands.lean ====
section
/-!
DEFINITION. The meanings of the commands of the plug set and the earthing switch (chapter 1).
-/

namespace Sys2Proof.Machine

/-- PILOT_MADE (R1). -/
def execPilotMade (plug : PlugNo) (s : State) : Host.Outcome State Fault Refusal := (Psm.pilotMade plug s).outcome

/-- PILOT_OPENED (R1, R8). -/
def execPilotOpened (plug : PlugNo) (s : State) : Host.Outcome State Fault Refusal := (Psm.pilotOpened plug s).outcome

/-- VALIDATION_TIMER_EXPIRY (R1, R3). -/
def execValidationTimerExpiry (plug : PlugNo) (s : State) : Host.Outcome State Fault Refusal :=
  (Psm.validated plug s).outcome

/-- EARTHCHK_CHANGE (R2, R9). -/
def execEarthchkChange (passing : Bool) (s : State) : Host.Outcome State Fault Refusal :=
  (Psm.earthchk passing s).outcome

/-- LATCH_FEEDBACK_CHANGE (R4, R5). -/
def execLatchFeedbackChange (plug : PlugNo) (engaged : Bool) (s : State) : Host.Outcome State Fault Refusal :=
  (Psm.latchFeedback plug engaged s).outcome

/-- ENGAGE_SUPERVISION_EXPIRY (R5). -/
def execEngageSupervisionExpiry (s : State) : Host.Outcome State Fault Refusal := (Psm.engageExpired s).outcome

/-- DEAD_TIMER_EXPIRY (R7). -/
def execDeadTimerExpiry (s : State) : Host.Outcome State Fault Refusal := (Psm.deadExpired s).outcome

/-- ESW_POSITION_CHANGE (R11, R16). -/
def execEswPositionChange (posc poso : Bool) (s : State) : Host.Outcome State Fault Refusal :=
  (Esd.positions posc poso s).outcome

/-- ESW_TRAVEL_TIMER_EXPIRY (R14). -/
def execEswTravelTimerExpiry (s : State) : Host.Outcome State Fault Refusal := (Esd.travelExpired s).outcome

/-- ESW_SETTLE_TIMER_EXPIRY (R16). -/
def execEswSettleTimerExpiry (s : State) : Host.Outcome State Fault Refusal := (Esd.settled s).outcome

end Sys2Proof.Machine
end

