-- ==== Sys2Proof/Machine/MeteringCommands.lean ====
section
/-!
DEFINITION. The reading set offered to its seven consumers, the check event, and the meanings of the two commands of the
metering port (chapter 2).
-/

namespace Sys2Proof.Machine

/-- An event offered to blocks one after the other: what each does with it is carried through all its hand-offs before
the next takes it. -/
def inTurn (fs : List (State → Out)) (s : State) : State := fs.foldl (fun s f => (f s).run) s

/-- R21, R24: the consumers of an accepted set, in the order of their blocks. DESIGN CHOICE (log entry 7): in this order;
the going of METERING-LOST is seen by the plug set monitor first. -/
def setConsumers (r : ReadingSet) (lost going : Bool) : List (State → Out) :=
  (if going then [Psm.reevaluate] else []) ++
    [Spv.onSet r lost, Syc.onSet r lost, Ptu.onSet r, Shc.onSet r, Psm.onSet r, Clu.onSet r, Csq.onSet r]

/-- R18, R19, R21: a delivery at the metering port; a discarded one is offered to no block. -/
def Mtp.deliver (bits : List Bool) (s : State) : State :=
  if !s.running then s
  else if s.mtp.discards bits then s.setMtp s.mtp.discard
  else
    let r := readingSetOf (bytesOfBits bits)
    let m := s.mtp.accept r
    inTurn (setConsumers r s.mtp.lost (s.mtp.lost && !m.lost)) (s.setMtp m)

/-- R24: the blocks that hear of the onset of METERING-LOST, in their order. -/
def lossConsumers : List (State → Out) :=
  [Ptu.meteringOnset, Psm.meteringOnset, Spv.meteringOnset, Syc.meteringOnset]

/-- R22, R24: a check event. -/
def Mtp.checkEvent (s : State) : State :=
  if s.mtp.check.isNone then s
  else
    let m := s.mtp.checked
    if m.lost && !s.mtp.lost then inTurn lossConsumers (s.setMtp m) else s.setMtp m

/-- METERING_DELIVERY (R18 to R21). -/
def execMeteringDelivery (bits : List Bool) (s : State) : Host.Outcome State Fault Refusal :=
  Out.outcome (Mtp.deliver bits s, [])

/-- CHECK_EVENT (R22, R24). -/
def execCheckEvent (s : State) : Host.Outcome State Fault Refusal := Out.outcome (Mtp.checkEvent s, [])

end Sys2Proof.Machine
end

