-- ==== Sys2Proof/Machine/SequencerCommands.lean ====
section
/-!
DEFINITION. The meanings of the commands of the sequencer's timers (chapter 3).
-/

namespace Sys2Proof.Machine

/-- PHASE_TIMER_EXPIRY (R43 to R48, R54, R55). -/
def execPhaseTimerExpiry (s : State) : Host.Outcome State Fault Refusal := (Csq.phaseExpired s).outcome

/-- RELEASE_DELAY_EXPIRY (R51). -/
def execReleaseDelayExpiry (s : State) : Host.Outcome State Fault Refusal := (Csq.releaseExpired s).outcome

/-- SLOT_TIMER_EXPIRY (R49). -/
def execSlotTimerExpiry (s : State) : Host.Outcome State Fault Refusal := (Csq.slotExpired s).outcome

/-- QUIET_TIMER_EXPIRY (R57). -/
def execQuietTimerExpiry (s : State) : Host.Outcome State Fault Refusal := (Csq.quietExpired s).outcome

/-- ISOLATING_WATCH_EXPIRY (R58). -/
def execIsolatingWatchExpiry (s : State) : Host.Outcome State Fault Refusal := (Csq.watchExpired s).outcome

end Sys2Proof.Machine
end

