-- ==== Sys2Proof/Machine/PanelCommands.lean ====
section
/-!
DEFINITION. The meanings of the commands of the panel and the attention line (chapter 11).
-/

namespace Sys2Proof.Machine

/-- CONNECT_PRESS (R40, R51, R172). -/
def execConnectPress (s : State) : Host.Outcome State Fault Refusal := (Pnl.press .connect Csq.connect s).outcome

/-- RELEASE_PRESS (R50, R61, R172). -/
def execReleasePress (s : State) : Host.Outcome State Fault Refusal := (Pnl.press .release Csq.release s).outcome

/-- ACK_PRESS (R107, R172). -/
def execAckPress (s : State) : Host.Outcome State Fault Refusal :=
  (Pnl.press .ack (Ptu.acknowledge Source.all) s).outcome

/-- HARD_RELEASE (R56, R173). -/
def execHardRelease (s : State) : Host.Outcome State Fault Refusal := (Pnl.held .release Csq.hardRelease s).outcome

/-- LOCKOUT_CLEAR (R66, R173). -/
def execLockoutClear (s : State) : Host.Outcome State Fault Refusal := (Pnl.held .ack Csq.lockoutClear s).outcome

/-- BUTTON_INPUT_CHANGE (R172). -/
def execButtonInputChange (button : Button) (pressed : Bool) (s : State) : Host.Outcome State Fault Refusal :=
  (Pnl.button button pressed s).outcome

/-- BUTTON_LETGO_EXPIRY (R172). -/
def execButtonLetgoExpiry (button : Button) (s : State) : Host.Outcome State Fault Refusal :=
  (Pnl.letgoExpired button s).outcome

/-- REFUSAL_FLASH_END (R175). -/
def execRefusalFlashEnd (s : State) : Host.Outcome State Fault Refusal := (Pnl.flashEnds s).outcome

/-- PATTERN_CLOCK_TICK (R174). -/
def execPatternClockTick (s : State) : Host.Outcome State Fault Refusal := (Pnl.tick s).outcome

/-- ATTENTION_PULSE_END (R177). -/
def execAttentionPulseEnd (s : State) : Host.Outcome State Fault Refusal := (Atu.pulseEnds s).outcome

/-- REFUSAL_FLASH_TOGGLE (R175). -/
def execRefusalFlashToggle (s : State) : Host.Outcome State Fault Refusal := (Pnl.flashToggled s).outcome

end Sys2Proof.Machine
end

