-- ==== Sys2Proof/Machine/BreakerCommands.lean ====
section
/-!
DEFINITION. The meanings of the commands of the shore breaker and the emergency-stop chain (chapters 4 and 6).
-/

namespace Sys2Proof.Machine

/-- AUX_CONTACT_CHANGE (R68). -/
def execAuxContactChange (auxc auxo : Bool) (s : State) : Host.Outcome State Fault Refusal :=
  (Bkd.contacts auxc auxo s).outcome

/-- CLOSE_PULSE_END (R71). -/
def execClosePulseEnd (s : State) : Host.Outcome State Fault Refusal := (Bkd.closePulseEnds s).outcome

/-- TRIP_PULSE_END (R73). -/
def execTripPulseEnd (s : State) : Host.Outcome State Fault Refusal := (Bkd.tripPulseEnds s).outcome

/-- CLOSE_SUPERVISION_EXPIRY (R72). -/
def execCloseSupervisionExpiry (s : State) : Host.Outcome State Fault Refusal := (Bkd.closeExpired s).outcome

/-- OPEN_SUPERVISION_EXPIRY (R75). -/
def execOpenSupervisionExpiry (s : State) : Host.Outcome State Fault Refusal := (Bkd.openExpired s).outcome

/-- CONTACT_WATCH_EXPIRY (R78). -/
def execContactWatchExpiry (s : State) : Host.Outcome State Fault Refusal := (Bkd.watchExpired s).outcome

/-- ANTI_PUMP_EXPIRY (R77). -/
def execAntiPumpExpiry (s : State) : Host.Outcome State Fault Refusal := (Bkd.antiPumpExpired s).outcome

/-- ESTOP_CHANGE (R97). -/
def execEstopChange (isOpen : Bool) (s : State) : Host.Outcome State Fault Refusal := (Ptu.estop isOpen s).outcome

end Sys2Proof.Machine
end

