-- ==== Sys2Proof/Machine/ShipCommands.lean ====
section
/-!
DEFINITION. The meanings of the commands of the ship link (chapters 3 and 7). A message stands for a whole valid frame (R113); a
payload of another length than its kind's makes a frame that R113 discards.
-/

namespace Sys2Proof.Machine

/-- TRANSFER_IN (R41, R122). -/
def execTransferIn (mode : Byte) (s : State) : Host.Outcome State Fault Refusal :=
  (Slc.message (Slc.request (Csq.transferIn (Mode.ofByte mode))) s).outcome

/-- READY (R45, R122). -/
def execReady (s : State) : Host.Outcome State Fault Refusal := (Slc.message (Slc.request Csq.readyMsg) s).outcome

/-- UNLOADED (R48, R122). -/
def execUnloaded (s : State) : Host.Outcome State Fault Refusal :=
  (Slc.message (Slc.request Csq.unloadedMsg) s).outcome

/-- HANDBACK (R52, R122). -/
def execHandback (mode : Byte) (s : State) : Host.Outcome State Fault Refusal :=
  (Slc.message (Slc.request (Csq.handbackMsg (Mode.ofByte mode))) s).outcome

/-- TAKEN (R52, R122). -/
def execTaken (s : State) : Host.Outcome State Fault Refusal := (Slc.message (Slc.request Csq.takenMsg) s).outcome

/-- ABANDON (R61, R122). -/
def execAbandon (s : State) : Host.Outcome State Fault Refusal := (Slc.message (Slc.request Csq.abandonMsg) s).outcome

/-- SHIP_HELLO (R116). -/
def execShipHello (payload : List Byte) (s : State) : Host.Outcome State Fault Refusal :=
  (Slc.message (fun s => if payload.length = 24 then Slc.shipHello payload s else (s, [])) s).outcome

/-- SHIP_STATUS (R120). -/
def execShipStatus (payload : List Byte) (s : State) : Host.Outcome State Fault Refusal :=
  (Slc.message (fun s => if payload.length = 12 then Slc.shipStatus payload s else (s, [])) s).outcome

/-- SHIP_FRAME_DISCARD (R112, R113). -/
def execShipFrameDiscard (s : State) : Host.Outcome State Fault Refusal := (Slc.hunt s).outcome

/-- SHIP_BYTE_GAP_TIMEOUT (R112). -/
def execShipByteGapTimeout (s : State) : Host.Outcome State Fault Refusal := (Slc.gapExpired s).outcome

/-- SHIP_TRANSMIT_END (R114). -/
def execShipTransmitEnd (s : State) : Host.Outcome State Fault Refusal := (Slc.transmitEnd s).outcome

/-- SILENCE_TIMER_EXPIRY (R117). -/
def execSilenceTimerExpiry (s : State) : Host.Outcome State Fault Refusal := (Slc.silenceExpired s).outcome

/-- HELLO_TIMER_EXPIRY (R124). -/
def execHelloTimerExpiry (s : State) : Host.Outcome State Fault Refusal := (Slc.helloExpired s).outcome

/-- CEILING_TIMER_EXPIRY (R125). -/
def execCeilingTimerExpiry (s : State) : Host.Outcome State Fault Refusal := (Slc.ceilingExpired s).outcome

/-- LINK_HOLD_EXPIRY (R123). -/
def execLinkHoldExpiry (s : State) : Host.Outcome State Fault Refusal := (Slc.linkHoldExpired s).outcome

/-- SHIP_LINK_BYTE_RECEIVED (R112). -/
def execShipLinkByteReceived (byte : Byte) (framingError : Bool) (s : State) : Host.Outcome State Fault Refusal :=
  (Slc.receive byte framingError s).outcome

end Sys2Proof.Machine
end

