-- ==== Sys2Proof/Machine/BusCommands.lean ====
section
/-!
DEFINITION. The meanings of the commands of the terminal bus (chapters 8, 9 and 11).
-/

namespace Sys2Proof.Machine

/-- R134, R158, R162: a STATUS filed: it goes to the claim unit, and to the share calculator for a pass where it is marked
changed. -/
def Tbc.onStatus (d : List Byte) (b : Nat) (s : State) : Out :=
  (Clu.onStatus b (s.fileStatus b d)).emit (if s.statusChanges b d then [.shcPass] else [])

/-- R135: a BID passed to the claim unit. DEDUCED (log entry 10): its proposed K is in units of 10 kVA. -/
def Tbc.onBid (d : List Byte) (b : Nat) (s : State) : Out :=
  Clu.onBid b (fieldNat d 0 1) (fieldNat d 1 2 * 10) (BidKind.ofCode (fieldNat d 3 1)) s

/-- R140, R183: a QUERY that names the own berth: byte 1 is the item, byte 2 the page or the berth asked about. An undefined
item is disregarded. -/
def Tbc.onQuery (d : List Byte) (s : State) : Out :=
  let n := fieldNat d 2 1
  match fieldNat d 1 1 with
  | 1 => Tbc.query 1 (s.summary n) (fun s => (s, [])) s
  | 2 => Tbc.query 2 s.tripItem (fun s => (s, [])) s
  | 3 => Tbc.query 3 s.resultItem Csq.popRecord s
  | 4 => Tbc.query 4 (s.peerItem n) (fun s => (s, [])) s
  | _ => (s, [])

/-- R108, R141: an ACK-TRIP that names the own berth: bytes 1 and 2 are the snapshot. -/
def Tbc.onAckTrip (d : List Byte) (s : State) : Out :=
  Ptu.acknowledge (sourcesOf (BitVec.ofNat 16 (fieldNat d 1 2))) s

/-- R137, R141, R176: a CONTROL that names the own berth: byte 1 is the command, bytes 2 and 3 the status set or byte 3 the
berth to forget. An undefined command is disregarded. DESIGN CHOICE (log entry 70): byte 2 is not read with a
FORGET-PEER. -/
def Tbc.onControl (d : List Byte) (s : State) : Out :=
  match fieldNat d 1 1 with
  | 1 => Atu.clear (BitVec.ofNat 16 (fieldNat d 2 2)) s
  | 2 => Tbc.forget (fieldNat d 3 1) s
  | _ => (s, [])

/-- R130: a frame that passes the tests is dealt with by its kind. -/
def Tbc.deal (kind : BusKind) (b : Nat) (d : List Byte) (s : State) : Out :=
  match kind with
  | .status => Tbc.onStatus d b s
  | .bid => Tbc.onBid d b s
  | .object => Clu.onObject (fieldNat d 0 1) (fieldNat d 1 1) s
  | .stepBid => Clu.onStepBid b (fieldNat d 0 1) s
  | .stepFree => Clu.onStepFree b s
  | .query => Tbc.forOwn d (Tbc.onQuery d) s
  | .ackTrip => Tbc.forOwn d (Tbc.onAckTrip d) s
  | .control => Tbc.forOwn d (Tbc.onControl d) s
  | .reply => (s, [])

/-- R130, R131: a frame of another station completes on the bus, is tested and is dealt with. DESIGN CHOICE (log entry
63): by what it is, whichever row of the table carries it. -/
def Tbc.frame (ident : BitVec 11) (d : List Byte) (s : State) : Out :=
  Tbc.receive
    (fun s =>
      match reception s.own ident d with
      | .disregarded => (s, [])
      | .ownNumber => Tbc.ownNumber s
      | .passed kind b => Tbc.deal kind b d s) s

/-- STATUS (R130, R134). -/
def execStatus (ident : BitVec 11) (data : List Byte) (s : State) : Host.Outcome State Fault Refusal :=
  (Tbc.frame ident data s).outcome

/-- BID (R130, R150). -/
def execBid (ident : BitVec 11) (data : List Byte) (s : State) : Host.Outcome State Fault Refusal :=
  (Tbc.frame ident data s).outcome

/-- OBJECT (R130, R148, R151). -/
def execObject (ident : BitVec 11) (data : List Byte) (s : State) : Host.Outcome State Fault Refusal :=
  (Tbc.frame ident data s).outcome

/-- STEP_BID (R130, R157). -/
def execStepBid (ident : BitVec 11) (data : List Byte) (s : State) : Host.Outcome State Fault Refusal :=
  (Tbc.frame ident data s).outcome

/-- STEP_FREE (R130, R158). -/
def execStepFree (ident : BitVec 11) (data : List Byte) (s : State) : Host.Outcome State Fault Refusal :=
  (Tbc.frame ident data s).outcome

/-- QUERY_SUMMARY (R130, R140, R178). -/
def execQuerySummary (ident : BitVec 11) (data : List Byte) (s : State) : Host.Outcome State Fault Refusal :=
  (Tbc.frame ident data s).outcome

/-- QUERY_TRIP (R130, R140, R179). -/
def execQueryTrip (frame : BusFrame) (s : State) : Host.Outcome State Fault Refusal :=
  (Tbc.frame frame.ident frame.data s).outcome

/-- QUERY_RESULT (R37, R130, R140, R179). -/
def execQueryResult (frame : BusFrame) (s : State) : Host.Outcome State Fault Refusal :=
  (Tbc.frame frame.ident frame.data s).outcome

/-- QUERY_PEER (R130, R140, R179). -/
def execQueryPeer (ident : BitVec 11) (data : List Byte) (s : State) : Host.Outcome State Fault Refusal :=
  (Tbc.frame ident data s).outcome

/-- ACK_TRIP (R108, R130, R141). -/
def execAckTrip (ident : BitVec 11) (data : List Byte) (s : State) : Host.Outcome State Fault Refusal :=
  (Tbc.frame ident data s).outcome

/-- CLEAR_ATTENTION (R130, R141, R176). -/
def execClearAttention (ident : BitVec 11) (data : List Byte) (s : State) : Host.Outcome State Fault Refusal :=
  (Tbc.frame ident data s).outcome

/-- FORGET_PEER (R130, R137, R141). -/
def execForgetPeer (ident : BitVec 11) (data : List Byte) (s : State) : Host.Outcome State Fault Refusal :=
  (Tbc.frame ident data s).outcome

/-- OWN_NUMBER_FRAME (R131). -/
def execOwnNumberFrame (s : State) : Host.Outcome State Fault Refusal := (Tbc.receive Tbc.ownNumber s).outcome

/-- FRAME_DISREGARDED (R130). -/
def execFrameDisregarded (s : State) : Host.Outcome State Fault Refusal := (Tbc.receive (fun s => (s, [])) s).outcome

/-- OWN_FRAME_COMPLETION (R129, R139). -/
def execOwnFrameCompletion (ident : BitVec 11) (s : State) : Host.Outcome State Fault Refusal :=
  (Tbc.complete ident.toNat s).outcome

/-- STATUS_PERIOD_EXPIRY (R132, R162). -/
def execStatusPeriodExpiry (s : State) : Host.Outcome State Fault Refusal := (Tbc.periodExpired s).outcome

/-- QUEUE_TIMER_EXPIRY (R138). -/
def execQueueTimerExpiry (s : State) : Host.Outcome State Fault Refusal := (Tbc.queueExpired s).outcome

/-- CAN_ERROR (R128). -/
def execCanError (error : BusError) (s : State) : Host.Outcome State Fault Refusal :=
  Out.outcome (s.setTbc (s.tbc.error error), [])

/-- BUS_OFF_RECOVERY (R128). -/
def execBusOffRecovery (s : State) : Host.Outcome State Fault Refusal := Out.outcome (s.setTbc s.tbc.recovered, [])

/-- PEER_STALE (R136). -/
def execPeerStale (berth : Nat) (s : State) : Host.Outcome State Fault Refusal := (Tbc.stale berth s).outcome

end Sys2Proof.Machine
end

