-- ==== Sys2Proof/Machine/ClaimCommands.lean ====
section
/-!
DEFINITION. The meanings of the commands of the claim unit and the share calculator (chapters 9 and 10).
-/

namespace Sys2Proof.Machine

/-- PEER_BID_WINDOW_END (R151). -/
def execPeerBidWindowEnd (berth : Nat) (s : State) : Host.Outcome State Fault Refusal :=
  (Clu.peerWindowEnd berth s).outcome

/-- PEER_STEP_BID_WINDOW_END (R157). -/
def execPeerStepBidWindowEnd (berth : Nat) (s : State) : Host.Outcome State Fault Refusal :=
  (Clu.stepWindowEnd berth s).outcome

/-- PEER_STEP_HOLD_EXPIRY (R158). -/
def execPeerStepHoldExpiry (berth : Nat) (s : State) : Host.Outcome State Fault Refusal :=
  (Clu.holdExpired berth s).outcome

/-- OWN_WINDOW_EXPIRY (R148). -/
def execOwnWindowExpiry (s : State) : Host.Outcome State Fault Refusal := (Clu.windowExpired s).outcome

/-- BACKOFF_EXPIRY (R148). -/
def execBackoffExpiry (s : State) : Host.Outcome State Fault Refusal := (Clu.backoffExpired s).outcome

/-- GRACE_TIMER_EXPIRY (R154). -/
def execGraceTimerExpiry (s : State) : Host.Outcome State Fault Refusal := (Clu.graceExpired s).outcome

/-- TOPUP_TIMER_EXPIRY (R153). -/
def execTopupTimerExpiry (s : State) : Host.Outcome State Fault Refusal := (Clu.topupExpired s).outcome

/-- BUDGET_WAIT_ONSET (R152). -/
def execBudgetWaitOnset (s : State) : Host.Outcome State Fault Refusal := (Clu.budgetWaits s).outcome

/-- PASS_TIMER_EXPIRY (R162). -/
def execPassTimerExpiry (s : State) : Host.Outcome State Fault Refusal := (Shc.passExpired s).outcome

end Sys2Proof.Machine
end

