-- ==== Sys2Proof/Machine/Dispatch.lean ====
section
/-!
DEFINITION. The meaning of every command of the table: one arm for each constructor of Instr.
-/

namespace Sys2Proof.Machine

/-- What a command does with everything but the queue of waiting commands. -/
def exec (i : Instr) (s : State) : Host.Outcome State Fault Refusal :=
  match i with
  | .powerOn straps => Sys2Proof.Machine.execPowerOn straps s
  | .resetAsserted => Sys2Proof.Machine.execResetAsserted s
  | .resetReleased straps => Sys2Proof.Machine.execResetReleased straps s
  | .configLoadEnd image => Sys2Proof.Machine.execConfigLoadEnd image s
  | .censusTimerExpiry => Sys2Proof.Machine.execCensusTimerExpiry s
  | .pilotMade plug => Sys2Proof.Machine.execPilotMade plug s
  | .pilotOpened plug => Sys2Proof.Machine.execPilotOpened plug s
  | .validationTimerExpiry plug => Sys2Proof.Machine.execValidationTimerExpiry plug s
  | .earthchkChange passing => Sys2Proof.Machine.execEarthchkChange passing s
  | .latchFeedbackChange plug engaged => Sys2Proof.Machine.execLatchFeedbackChange plug engaged s
  | .engageSupervisionExpiry => Sys2Proof.Machine.execEngageSupervisionExpiry s
  | .deadTimerExpiry => Sys2Proof.Machine.execDeadTimerExpiry s
  | .eswPositionChange posc poso => Sys2Proof.Machine.execEswPositionChange posc poso s
  | .eswTravelTimerExpiry => Sys2Proof.Machine.execEswTravelTimerExpiry s
  | .eswSettleTimerExpiry => Sys2Proof.Machine.execEswSettleTimerExpiry s
  | .meteringDelivery bits => Sys2Proof.Machine.execMeteringDelivery bits s
  | .checkEvent => Sys2Proof.Machine.execCheckEvent s
  | .phaseTimerExpiry => Sys2Proof.Machine.execPhaseTimerExpiry s
  | .releaseDelayExpiry => Sys2Proof.Machine.execReleaseDelayExpiry s
  | .slotTimerExpiry => Sys2Proof.Machine.execSlotTimerExpiry s
  | .quietTimerExpiry => Sys2Proof.Machine.execQuietTimerExpiry s
  | .isolatingWatchExpiry => Sys2Proof.Machine.execIsolatingWatchExpiry s
  | .connectPress => Sys2Proof.Machine.execConnectPress s
  | .releasePress => Sys2Proof.Machine.execReleasePress s
  | .ackPress => Sys2Proof.Machine.execAckPress s
  | .hardRelease => Sys2Proof.Machine.execHardRelease s
  | .lockoutClear => Sys2Proof.Machine.execLockoutClear s
  | .buttonInputChange button pressed => Sys2Proof.Machine.execButtonInputChange button pressed s
  | .buttonLetgoExpiry button => Sys2Proof.Machine.execButtonLetgoExpiry button s
  | .refusalFlashEnd => Sys2Proof.Machine.execRefusalFlashEnd s
  | .patternClockTick => Sys2Proof.Machine.execPatternClockTick s
  | .auxContactChange auxc auxo => Sys2Proof.Machine.execAuxContactChange auxc auxo s
  | .closePulseEnd => Sys2Proof.Machine.execClosePulseEnd s
  | .tripPulseEnd => Sys2Proof.Machine.execTripPulseEnd s
  | .closeSupervisionExpiry => Sys2Proof.Machine.execCloseSupervisionExpiry s
  | .openSupervisionExpiry => Sys2Proof.Machine.execOpenSupervisionExpiry s
  | .contactWatchExpiry => Sys2Proof.Machine.execContactWatchExpiry s
  | .antiPumpExpiry => Sys2Proof.Machine.execAntiPumpExpiry s
  | .estopChange isOpen => Sys2Proof.Machine.execEstopChange isOpen s
  | .transferIn mode => Sys2Proof.Machine.execTransferIn mode s
  | .ready => Sys2Proof.Machine.execReady s
  | .unloaded => Sys2Proof.Machine.execUnloaded s
  | .handback mode => Sys2Proof.Machine.execHandback mode s
  | .taken => Sys2Proof.Machine.execTaken s
  | .abandon => Sys2Proof.Machine.execAbandon s
  | .shipHello payload => Sys2Proof.Machine.execShipHello payload s
  | .shipStatus payload => Sys2Proof.Machine.execShipStatus payload s
  | .shipFrameDiscard => Sys2Proof.Machine.execShipFrameDiscard s
  | .shipByteGapTimeout => Sys2Proof.Machine.execShipByteGapTimeout s
  | .shipTransmitEnd => Sys2Proof.Machine.execShipTransmitEnd s
  | .silenceTimerExpiry => Sys2Proof.Machine.execSilenceTimerExpiry s
  | .helloTimerExpiry => Sys2Proof.Machine.execHelloTimerExpiry s
  | .ceilingTimerExpiry => Sys2Proof.Machine.execCeilingTimerExpiry s
  | .linkHoldExpiry => Sys2Proof.Machine.execLinkHoldExpiry s
  | .status ident data => Sys2Proof.Machine.execStatus ident data s
  | .bid ident data => Sys2Proof.Machine.execBid ident data s
  | .object ident data => Sys2Proof.Machine.execObject ident data s
  | .stepBid ident data => Sys2Proof.Machine.execStepBid ident data s
  | .stepFree ident data => Sys2Proof.Machine.execStepFree ident data s
  | .querySummary ident data => Sys2Proof.Machine.execQuerySummary ident data s
  | .queryTrip frame => Sys2Proof.Machine.execQueryTrip frame s
  | .queryResult frame => Sys2Proof.Machine.execQueryResult frame s
  | .queryPeer ident data => Sys2Proof.Machine.execQueryPeer ident data s
  | .ackTrip ident data => Sys2Proof.Machine.execAckTrip ident data s
  | .clearAttention ident data => Sys2Proof.Machine.execClearAttention ident data s
  | .forgetPeer ident data => Sys2Proof.Machine.execForgetPeer ident data s
  | .ownNumberFrame => Sys2Proof.Machine.execOwnNumberFrame s
  | .frameDisregarded => Sys2Proof.Machine.execFrameDisregarded s
  | .ownFrameCompletion ident => Sys2Proof.Machine.execOwnFrameCompletion ident s
  | .statusPeriodExpiry => Sys2Proof.Machine.execStatusPeriodExpiry s
  | .queueTimerExpiry => Sys2Proof.Machine.execQueueTimerExpiry s
  | .canError error => Sys2Proof.Machine.execCanError error s
  | .busOffRecovery => Sys2Proof.Machine.execBusOffRecovery s
  | .peerStale berth => Sys2Proof.Machine.execPeerStale berth s
  | .peerBidWindowEnd berth => Sys2Proof.Machine.execPeerBidWindowEnd berth s
  | .peerStepBidWindowEnd berth => Sys2Proof.Machine.execPeerStepBidWindowEnd berth s
  | .peerStepHoldExpiry berth => Sys2Proof.Machine.execPeerStepHoldExpiry berth s
  | .ownWindowExpiry => Sys2Proof.Machine.execOwnWindowExpiry s
  | .backoffExpiry => Sys2Proof.Machine.execBackoffExpiry s
  | .graceTimerExpiry => Sys2Proof.Machine.execGraceTimerExpiry s
  | .topupTimerExpiry => Sys2Proof.Machine.execTopupTimerExpiry s
  | .budgetWaitOnset => Sys2Proof.Machine.execBudgetWaitOnset s
  | .passTimerExpiry => Sys2Proof.Machine.execPassTimerExpiry s
  | .attentionPulseEnd => Sys2Proof.Machine.execAttentionPulseEnd s
  | .shipLinkByteReceived byte framingError => Sys2Proof.Machine.execShipLinkByteReceived byte framingError s
  | .refusalFlashToggle => Sys2Proof.Machine.execRefusalFlashToggle s

end Sys2Proof.Machine
end

