-- ==== Sys2Proof/Machine/Idle.lean ====
section
/-!
DEFINITION. What the block does when no command waits: the first expiry that is due, or one more millisecond. The manual
gives every timer its length but the table has no row for a tick (log entry 2).
-/

namespace Sys2Proof.Machine

/-! ### One millisecond -/

/-- One ms less is left. -/
def Timer.tick (t : Timer) : Timer := t.map (· - 1)

/-- A plug one ms later. -/
def Plug.tick (q : Plug) : Plug := { q with validation := Timer.tick q.validation }

def Psm.tick (p : Psm) : Psm :=
  { p with
    plugs := ⟨p.plugs.p1.tick, p.plugs.p2.tick, p.plugs.p3.tick, p.plugs.p4.tick⟩
    engage := Timer.tick p.engage
    deadTimer := Timer.tick p.deadTimer }

def Esd.tick (e : Esd) : Esd := { e with travel := Timer.tick e.travel, settle := Timer.tick e.settle }

def Bkd.tick (b : Bkd) : Bkd :=
  { b with
    closePulse := Timer.tick b.closePulse, tripPulse := Timer.tick b.tripPulse, closeSup := Timer.tick b.closeSup
    openSup := Timer.tick b.openSup, contactWatch := Timer.tick b.contactWatch, antiPump := Timer.tick b.antiPump }

/-- R96: each whole second of running time adds 1 to the first-out age of a set that is not empty. -/
def Ptu.tick (now : Nat) (p : Ptu) : Ptu :=
  if !p.latched.isEmpty && now % 1000 == 0 then { p with age := min 65535 (p.age + 1) } else p

def Csq.tick (c : Csq) : Csq :=
  { c with
    phase := Timer.tick c.phase, releaseDelay := Timer.tick c.releaseDelay, slotTimer := Timer.tick c.slotTimer
    quiet := Timer.tick c.quiet, isoWatch := Timer.tick c.isoWatch, clockMs := c.clockMs + 1 }

def Slc.tick (c : Slc) : Slc :=
  { c with
    silence := Timer.tick c.silence, hello := Timer.tick c.hello, ceiling := Timer.tick c.ceiling
    linkHold := Timer.tick c.linkHold, gap := Timer.tick c.gap }

/-- R136, R150: a peer entry one ms later. -/
def Peer.tick (p : Peer) : Peer :=
  { p with age := min 65535 (p.age + 1), bid := p.bid.map fun b => { b with left := b.left - 1 } }

def Tbc.tick (t : Tbc) : Tbc :=
  { t with
    period := Timer.tick t.period
    queue := t.queue.map fun f => { f with timer := Timer.tick f.timer }
    peers := t.peers.map Peer.tick }

def StepRec.tick (r : StepRec) : StepRec := { r with bid := r.bid.map fun b => { b with left := b.left - 1 } }

def Clu.tick (c : Clu) : Clu :=
  { c with
    floorReq := c.floorReq.map (· + 1), grace := Timer.tick c.grace, backoff := Timer.tick c.backoff
    topup := Timer.tick c.topup, bid := c.bid.map fun b => { b with window := Timer.tick b.window }
    stepList := c.stepList.map StepRec.tick }

def Validator.tick (v : Validator) : Validator :=
  { v with settle := Timer.tick v.settle, letgo := Timer.tick v.letgo }

def Pnl.tickTimers (p : Pnl) : Pnl :=
  { p with
    connect := p.connect.tick, release := p.release.tick, ack := p.ack.tick, clockTimer := Timer.tick p.clockTimer
    flash := Timer.tick p.flash, flashToggle := Timer.tick p.flashToggle }

/-- The TRIP pulse and the pattern clock: all that runs before a load has succeeded. -/
def State.tickStopped (s : State) : State :=
  (s.setBkd s.bkd.tick).setPnl s.pnl.tickTimers

/-- Every timer and count of time, one ms of running time later. -/
def State.tickRunning (s : State) : State :=
  { s with
    cfl := { s.cfl with census := Timer.tick s.cfl.census }
    psm := s.psm.tick
    esd := s.esd.tick
    mtp := { s.mtp with check := Timer.tick s.mtp.check }
    csq := s.csq.tick
    bkd := s.bkd.tick
    ptu := s.ptu.tick (s.csq.clockMs + 1)
    slc := s.slc.tick
    tbc := s.tbc.tick
    clu := s.clu.tick
    shc := { s.shc with pass := Timer.tick s.shc.pass }
    pnl := s.pnl.tickTimers
    atu := { s.atu with pulse := Timer.tick s.atu.pulse } }

/-- One millisecond passes. -/
def State.tick (s : State) : State := if s.running then s.tickRunning else s.tickStopped

/-! ### Expiries -/

/-- The commands `c` when the timer `t` has run out. -/
def whenZero (t : Timer) (c : Instr) : List Instr := if t = some 0 then [c] else []

/-- The commands `c` when the condition holds. -/
def whenTrue (b : Bool) (c : Instr) : List Instr := if b then [c] else []

/-- The expiries of a validator, and its hold report once `hold` ms have passed (R173). -/
def Validator.expired (v : Validator) (now hold : Nat) (b : Button) (press report : List Instr) : List Instr :=
  (if v.settle = some 0 then press else []) ++ whenZero v.letgo (.buttonLetgoExpiry b) ++
    (if v.state == .held && !v.reported && v.since + hold ≤ now then report else [])

/-- The expiries of a peer entry (R136, R151, R158). -/
def Peer.expired (now : Nat) (p : Peer) : List Instr :=
  whenTrue (p.live && 3000 ≤ p.age) (.peerStale p.berth) ++
    whenTrue (p.bid.any fun b => b.left == 0) (.peerBidWindowEnd p.berth) ++
    whenTrue (p.stepHold.any fun t => t + 300000 ≤ now) (.peerStepHoldExpiry p.berth)

/-- The expiries of a step list record (R157, R158). -/
def StepRec.expired (now : Nat) (r : StepRec) : List Instr :=
  whenTrue (r.bid.any fun b => b.left == 0) (.peerStepBidWindowEnd r.berth) ++
    whenTrue (r.hold.any fun t => t + 300000 ≤ now) (.peerStepHoldExpiry r.berth)

/-- Every expiry that is due. DESIGN CHOICE (log entry 2): expiries that fall together are taken in this order; the
manual gives the result of each order and fixes none. -/
def State.expired (s : State) : List Instr :=
  whenZero s.bkd.closePulse .closePulseEnd ++ whenZero s.bkd.tripPulse .tripPulseEnd ++
    whenZero s.bkd.closeSup .closeSupervisionExpiry ++ whenZero s.bkd.openSup .openSupervisionExpiry ++
    whenZero s.bkd.contactWatch .contactWatchExpiry ++ whenZero s.bkd.antiPump .antiPumpExpiry ++
    whenZero s.psm.plugs.p1.validation (.validationTimerExpiry .p1) ++
    whenZero s.psm.plugs.p2.validation (.validationTimerExpiry .p2) ++
    whenZero s.psm.plugs.p3.validation (.validationTimerExpiry .p3) ++
    whenZero s.psm.plugs.p4.validation (.validationTimerExpiry .p4) ++
    whenZero s.psm.engage .engageSupervisionExpiry ++ whenZero s.psm.deadTimer .deadTimerExpiry ++
    whenZero s.esd.travel .eswTravelTimerExpiry ++ whenZero s.esd.settle .eswSettleTimerExpiry ++
    whenZero s.mtp.check .checkEvent ++ whenZero s.cfl.census .censusTimerExpiry ++
    whenZero s.csq.phase .phaseTimerExpiry ++ whenZero s.csq.releaseDelay .releaseDelayExpiry ++
    whenZero s.csq.slotTimer .slotTimerExpiry ++ whenZero s.csq.quiet .quietTimerExpiry ++
    whenZero s.csq.isoWatch .isolatingWatchExpiry ++
    s.pnl.connect.expired s.csq.clockMs 0 .connect [.connectPress] [] ++
    s.pnl.release.expired s.csq.clockMs 4000 .release [.releasePress] [.hardRelease] ++
    s.pnl.ack.expired s.csq.clockMs 2000 .ack [.ackPress] [.lockoutClear] ++
    whenZero s.pnl.flash .refusalFlashEnd ++ whenZero s.pnl.flashToggle .refusalFlashToggle ++
    whenZero s.pnl.clockTimer .patternClockTick ++ whenZero s.atu.pulse .attentionPulseEnd ++
    whenZero s.slc.gap .shipByteGapTimeout ++ whenZero s.slc.silence .silenceTimerExpiry ++
    whenZero s.slc.hello .helloTimerExpiry ++ whenZero s.slc.ceiling .ceilingTimerExpiry ++
    whenZero s.slc.linkHold .linkHoldExpiry ++
    whenTrue (s.tbc.queue.any fun f => f.timer == some 0) .queueTimerExpiry ++
    whenZero s.tbc.period .statusPeriodExpiry ++
    s.tbc.peers.flatMap (Peer.expired s.csq.clockMs) ++ s.clu.stepList.flatMap (StepRec.expired s.csq.clockMs) ++
    (s.clu.bid.map fun b => whenZero b.window .ownWindowExpiry).getD [] ++
    whenZero s.clu.backoff .backoffExpiry ++ whenZero s.clu.grace .graceTimerExpiry ++
    whenZero s.clu.topup .topupTimerExpiry ++
    whenTrue ((s.clu.floorReq.any fun n => decide (60000 < n)) && s.clu.kf == 0 && !s.clu.budgetWait) .budgetWaitOnset ++
    whenZero s.shc.pass .passTimerExpiry

/-- What the block does when no command waits. -/
def idle (s : State) : Host.Outcome State Fault Refusal :=
  match s.expired with
  | c :: _ => exec c s
  | [] => .next s.tick.refresh

/-- The command `c` with the rest of the queue. -/
def runCommand (c : Instr) (rest : List Instr) (s : State) : Host.Outcome State Fault Refusal :=
  exec c (s.setPending rest)

/-- The queue with the command that a word of `nbits` bits spells put in front; unchanged where it spells none. -/
def State.putWord (s : State) (nbits w : Nat) : State :=
  match decodeTableWord nbits w with
  | some c => s.setPending (c :: s.pending)
  | none => s

end Sys2Proof.Machine
end

