-- ==== Sys2Proof/Machine/Step.lean ====
section
/-!
DEFINITION. One step of the block: the command at the front of the queue, or what it does when none waits.
-/

namespace Sys2Proof.Machine

/-- The command at the front of the queue runs with the queue's rest; on an empty queue the block idles. -/
def step (s : State) : Host.Outcome State Fault Refusal :=
  match s.pending with
  | c :: rest => runCommand c rest s
  | [] => idle s

/-- The state with the command that a word spells at the front of its queue (log entry 33). -/
def State.withFetchWord (s : State) (nbits w : Nat) : State := s.putWord nbits w

end Sys2Proof.Machine
end

