-- ==== Sys2Proof/Safety.lean ====
section
/-!
DEFINITION. What a safe state is, in the terms the statements use: a settled state, the bounds of the held-item tables,
and the parts of the state that no hand-off reaches.
-/

namespace Sys2Proof.Machine

/-! ### Settled states -/

/-- Nothing is due: no condition that a rule puts as "at the first event after which" holds (R6, R12 to R14, R39,
R43). -/
def State.calm (s : State) : Bool := s.due.isNone

/-- Nothing is due, or the part is not running: a command that makes no hand-off leaves such a state as it is. -/
def State.settled (s : State) : Bool := !s.running || s.calm

/-! ### Invariants -/

/-- R96, section 6.2: the trip record: no source twice, a first-out exactly while the set is not empty, the counts
within their ranges. -/
structure Ptu.Ordered (p : Ptu) : Prop where
  latched_nodup : p.latched.Nodup
  firstOut_iff : p.firstOut.isSome = !p.latched.isEmpty
  age_le : p.age ≤ 65535
  age_empty : p.latched = [] → p.age = 0
  earthRun_le : p.earthRun ≤ 5
  overcurrentRun_le : p.overcurrentRun ≤ 2
  reverseRun_le : p.reverseRun ≤ 100

/-- Sections 3.1 and 3.2: the result log and the counts of the sequencer within their ranges. -/
structure Csq.Ordered (c : Csq) : Prop where
  log_le : c.log.length ≤ 16
  seq_le : c.seq ≤ 65535
  retry_le : c.retry ≤ 3
  closeFail_le : c.closeFail ≤ 1
  unloadRun_le : c.unloadRun ≤ 10

/-- R114: at most 8 messages wait, at most one CEILING and one BERTH-HELLO among them. -/
structure Slc.Ordered (c : Slc) : Prop where
  queue_le : c.queue.length ≤ 8
  one_ceiling : (c.queue.filter ShipMsg.isCeiling).length ≤ 1
  one_hello : (c.queue.filter ShipMsg.isHello).length ≤ 1

/-- R128, R129, R132, R138: the error counts and the transmit queue within their ranges, with one place for STATUS; an
attempt only on the bus, of a queued frame or of one that BUS-LOST withdrew. -/
structure Tbc.Ordered (t : Tbc) : Prop where
  txErr_le : t.txErr ≤ 256
  rxErr_le : t.rxErr ≤ 255
  queue_le : t.queue.length ≤ 24
  one_status : (t.queue.filter fun f => f.body.isStatus).length ≤ 1
  attempt_onBus : t.attempt.isSome = true → t.can.onBus = true
  attempt_queued : ∀ a, t.attempt = some a → a.body.bidding = true ∨ ∃ f ∈ t.queue, f.body = a.body

/-- Section 8.4: the peer table: rising berth numbers from 1 to 16, none of them the own number. -/
def PeersOrdered (own : Nat) (l : List Peer) : Prop :=
  (l.map fun p => p.berth).Pairwise (· < ·) ∧ ∀ p ∈ l, 1 ≤ p.berth ∧ p.berth ≤ 16 ∧ p.berth ≠ own

/-- R157: the step list: rising berth numbers from 1 to 16, none of them the own number, no record with neither a bid nor
a hold. -/
def StepsOrdered (own : Nat) (l : List StepRec) : Prop :=
  (l.map fun r => r.berth).Pairwise (· < ·) ∧
    ∀ r ∈ l, 1 ≤ r.berth ∧ r.berth ≤ 16 ∧ r.berth ≠ own ∧ (r.bid.isSome = true ∨ r.hold.isSome = true)

/-- R128, R142, R143: the interface takes part in the traffic only behind a successful load, and never in solitary mode;
before the load and in solitary mode there is no peer and no frame to send. -/
def State.BusQuiet (s : State) : Prop :=
  s.running = false ∨ s.figs.solitary = true →
    (s.tbc.can = .off ∨ s.tbc.can = .listening) ∧ s.tbc.peers = [] ∧ s.tbc.queue = [] ∧ s.tbc.attempt = none ∧
      s.clu.stepList = []

/-- R70, R71, R74, R80: HOLD only while the breaker is closing or closed and all four hold conditions hold, CLOSE only
while the slot is held; before a successful load the breaker is OPENING with no supervision. -/
structure State.BreakerSafe (s : State) : Prop where
  hold_state : s.bkd.hold = true → s.bkd.state = .closing ∨ s.bkd.state = .closed
  hold_conditions : s.bkd.hold = true → s.holdConditions = true
  close_slot : s.bkd.closePulse.isSome = true → s.bkd.slotHeld = true
  stopped : s.running = false → s.bkd.state = .opening ∧ s.bkd.hold = false ∧ s.bkd.closeSup = none ∧
    s.bkd.openSup = none ∧ s.bkd.contactWatch = none

/-- R12 to R14: an earthing switch output is asserted only in a travel with a direction. -/
def Esd.DriveSafe (e : Esd) : Prop := e.driving = true → e.state = .moving ∧ e.dir ≠ .none

/-- R28: the stability count is within 0 and N, and SHORE-PROVEN stands only at N; before a successful load the count is 0
and nothing is proven. -/
def State.ProofOrdered (s : State) : Prop :=
  s.spv.stability ≤ s.figs.n ∧ (s.spv.proven = true → s.spv.stability = s.figs.n) ∧
    (s.running = false → s.spv.stability = 0 ∧ s.spv.proven = false)

/-- R3: the set state is the one that the pilot states and the earth check give. -/
def State.SetDerived (s : State) : Prop := s.running = true → s.psm.setState = s.psm.derivedSet s.figs.np

/-- Sections 2.3, 2.6, 5.1, 9.1 and 10.1: the counts of the metering port, the supply prover, the synchronism checker,
the claim unit and the share calculator within their ranges. -/
structure State.CountsOrdered (s : State) : Prop where
  miss_le : s.mtp.miss ≤ 2
  mtpRecovery_lt : s.mtp.recovery < 50
  badRun_lt : s.spv.badRun < 5
  good_le : s.syc.good ≤ 3
  dead_le : s.syc.dead ≤ 25
  negative_le : s.syc.negative ≤ 25
  lowRun_le : s.clu.lowRun ≤ 5
  serial_le : s.clu.nextSerial ≤ 255
  draws_le : s.clu.draws.length ≤ 50
  uq_le : s.shc.uq ≤ 255
  u_le : s.shc.u ≤ 65535
  energy_le : s.shc.energy ≤ 65535
  subAcc_lt : s.shc.subAcc < 180000

/-! ### What no hand-off reaches -/

/-- The input lines, the configuration, the metering port and the queue of commands are as they were. -/
structure Kept (s t : State) : Prop where
  pins : t.pins = s.pins
  cfl : t.cfl = s.cfl
  mtp : t.mtp = s.mtp
  pending : t.pending = s.pending

/-- The commands of the start: power-on, the two edges of RESET, the end of the load. -/
def isStart : Instr → Bool
  | .powerOn _ | .resetAsserted | .resetReleased _ | .configLoadEnd _ => true
  | _ => false

/-- R43 to R48: the cause with which an expired phase limit aborts a TRANSFER-IN, by phase; none outside its
phases. -/
def State.phaseCause (s : State) : Option Cause :=
  match s.csq.state with
  | .proving =>
    some (if s.spv.proven = false then .shoreUnstable else if s.clu.kf = 0 then .budget else .switchTimeout)
  | .ready => some .stepBusy
  | .syncing => some (if s.csq.sub = .awaitingReady then .shipTimeout else .syncTimeout)
  | .deadwait =>
    some (if s.csq.sub = .awaitingReady then .shipTimeout else if s.mtp.shipLive then .liveBus else .deadTimeout)
  | .parallel => some .parallelTimeout
  | .start | .vacant | .hooked | .shore | .releaseWait | .handback | .unloading | .isolating | .lockout => none

/-- R182: the first working state, by the first row of the table that applies. -/
def State.firstWorking (s : State) : SeqState :=
  if s.ptu.latched.any Source.fatal then .lockout
  else if s.esd.state ≠ .closed ∨ s.bkd.state ≠ .opened ∨ s.psm.live = true ∨ s.latchesFree = false then .isolating
  else if s.psm.setState = .complete then .hooked
  else .vacant

/-- R128, R129: what a frame received without error leaves of the bus controller, before it is dealt with (log entries 13
and 14). -/
def Tbc.heard (t : Tbc) : Tbc := Tbc.judged { t with rxErr := t.rxErr - 1, attempt := none }

/-- The state in which a received frame is dealt with. -/
def State.heard (s : State) : State := s.setTbc s.tbc.heard

/-- R129, R132: the state with the offered frame in its attempt, where the part is running and an attempt is due (log entry
14). -/
def State.begun (s : State) : State := if s.running && s.tbc.attemptDue then Tbc.begin s else s

/-- R183: the bits of a byte, the most significant first. -/
def bitsOfByte (b : Byte) : List Bool := [7, 6, 5, 4, 3, 2, 1, 0].map b.getLsbD

/-- The commands that stand for a frame of another station on the terminal bus. -/
def isFrame : Instr → Bool
  | .status .. | .bid .. | .object .. | .stepBid .. | .stepFree .. | .querySummary .. | .queryTrip _ | .queryResult _
  | .queryPeer .. | .ackTrip .. | .clearAttention .. | .forgetPeer .. | .ownNumberFrame | .frameDisregarded => true
  | _ => false

/-- The frame that a row carries. -/
def frameOf : Instr → Option BusFrame
  | .status ident data | .bid ident data | .object ident data | .stepBid ident data | .stepFree ident data
  | .querySummary ident data | .queryPeer ident data | .ackTrip ident data | .clearAttention ident data
  | .forgetPeer ident data => some ⟨ident, data⟩
  | .queryTrip frame | .queryResult frame => some frame
  | _ => none

/-- The kind of the frame that a row stands for. -/
def rowKind : Instr → Option BusKind
  | .status .. => some .status
  | .bid .. => some .bid
  | .object .. => some .object
  | .stepBid .. => some .stepBid
  | .stepFree .. => some .stepFree
  | .querySummary .. | .queryTrip _ | .queryResult _ | .queryPeer .. => some .query
  | .ackTrip .. => some .ackTrip
  | .clearAttention .. | .forgetPeer .. => some .control
  | _ => none

/-- The rows that are one item of a QUERY or one command of a CONTROL: the code in byte 1 (section 12.3). -/
def stationCode : Instr → Option Nat
  | .querySummary .. | .clearAttention .. => some 1
  | .queryTrip _ | .forgetPeer .. => some 2
  | .queryResult _ => some 3
  | .queryPeer .. => some 4
  | _ => none

/-- The commands that stand for a request of the ship (R122). -/
def isRequest : Instr → Bool
  | .transferIn _ | .ready | .unloaded | .handback _ | .taken | .abandon => true
  | _ => false

/-- The ship messages as frames: the kind byte and the payload of a ship-to-part message (section 12.4). -/
def shipFrameOf : Instr → Option (Nat × List Byte)
  | .shipHello payload => some (1, payload)
  | .shipStatus payload => some (2, payload)
  | .transferIn mode => some (3, [mode])
  | .ready => some (4, [])
  | .unloaded => some (5, [])
  | .handback mode => some (6, [mode])
  | .taken => some (7, [])
  | .abandon => some (8, [])
  | _ => none

/-- The bytes of a frame on the line: start byte, kind, length, payload, CRC (section 7.1). -/
def lineBytes (kind : Nat) (payload : List Byte) : List Byte :=
  let body := beBytes 1 kind ++ beBytes 1 payload.length ++ payload
  0x7E#8 :: (body ++ crcBytes body)

/-- Bytes received one after the other, none with a framing error. -/
def receiveBytes : List Byte → State → Host.Outcome State Fault Refusal
  | [], s => .next s
  | b :: rest, s =>
    match exec (.shipLinkByteReceived b false) s with
    | .next t => receiveBytes rest t
    | .fault r => .fault r
    | .refused r => .refused r

end Sys2Proof.Machine
end

