-- ==== Sys2Proof/WellFormed.lean ====
section
/-!
DEFINITION. What the operands of a command must satisfy to be a command of the table. A delivery of any length and a
bus frame of any sender and data length are well formed: R18 and R130 say what the part does with each. A row of a bus
frame carries a frame of its own kind, or one whose kind has no such row: a REPLY or an undefined kind. A QUERY or
CONTROL of the right length carries the item or the command code of its row (section 12.3).
-/

namespace Sys2Proof

/-- A berth number of a peer entry or step record is 1 to 16 (section 1.2). -/
def berthOk (n : Nat) : Bool := decide (1 ≤ n ∧ n ≤ 16)

/-- R129: the kind codes of the frames that have a row of their own. -/
def rowKinds : List Nat := [2, 4, 5, 6, 8, 12, 14, 15]

/-- A frame that the row of kind code `kind` may carry: at most 8 bytes, its kind that of the row or that of no row. -/
def frameOk (kind : Nat) (ident : BitVec 11) (data : List Byte) : Bool :=
  decide (data.length ≤ 8) && (ident.toNat / 32 == kind || !rowKinds.contains (ident.toNat / 32))

/-- The data of a station frame whose length is `len`: byte 1 is the code of the row, where the length is right. -/
def stationOk (len code : Nat) (data : List Byte) : Bool := data.length != len || data[1]? == some (BitVec.ofNat 8 code)

/-- The operands of each command are of the shape the table's row and chapter 12 give. -/
def Instr.wellFormed : Instr → Bool
  | .configLoadEnd image => image.length == 64
  | .shipHello payload => payload.length == 24
  | .shipStatus payload => payload.length == 12
  | .object ident data => frameOk 2 ident data
  | .bid ident data => frameOk 4 ident data
  | .stepBid ident data => frameOk 5 ident data
  | .stepFree ident data => frameOk 6 ident data
  | .status ident data => frameOk 8 ident data
  | .querySummary ident data => frameOk 12 ident data && stationOk 3 1 data
  | .queryTrip frame => frameOk 12 frame.ident frame.data && stationOk 3 2 frame.data
  | .queryResult frame => frameOk 12 frame.ident frame.data && stationOk 3 3 frame.data
  | .queryPeer ident data => frameOk 12 ident data && stationOk 3 4 data
  | .ackTrip ident data => frameOk 14 ident data
  | .clearAttention ident data => frameOk 15 ident data && stationOk 4 1 data
  | .forgetPeer ident data => frameOk 15 ident data && stationOk 4 2 data
  | .peerStale n => berthOk n
  | .peerBidWindowEnd n => berthOk n
  | .peerStepBidWindowEnd n => berthOk n
  | .peerStepHoldExpiry n => berthOk n
  | _ => true

end Sys2Proof
end

