-- ==== Sys2Proof/Certificates/Slice0/Obligations.lean ====
section
/-!
DEFINITION. The statements about the model. Where a statement names the answer `o` of a block, `o.1` is the state the
block itself makes and `o.2` the hand-offs it makes to the other blocks, in order; `o.conclude` carries the hand-offs
out, then what is due, and lets the output lines follow. In a settled state a command that makes no hand-off has no
other effect than the one its statement gives. Where `o.2` is given as a list of several hand-offs, their order is the
model's choice (log entries 4, 31 and 32).
-/

open Sys2Proof Sys2Proof.Machine

/-! ### Steps and the queue of commands -/

/-- A step takes the command at the front of the queue and runs it with the queue's rest. -/
def Obligations.StepRunsTheFrontCommand : Prop :=
  ∀ (c : Instr) (rest : List Instr) (s : State), s.pending = c :: rest → step s = exec c (s.setPending rest)

/-- On an empty queue the first expiry that is due is taken; where none is due, one millisecond passes. The model's
choice (log entry 2). -/
def Obligations.EmptyQueueLetsTimePass : Prop :=
  ∀ s : State, s.pending = [] →
    (∀ (c : Instr) (rest : List Instr), s.expired = c :: rest → step s = exec c s) ∧
    (s.expired = [] → step s = .next s.tick.refresh)

/-- Every command answers a next state, leaves the waiting commands as they are, and lets the output lines follow. -/
def Obligations.EveryCommandCompletes : Prop :=
  ∀ (c : Instr) (s : State), ∃ t, exec c s = .next t ∧ t.pending = s.pending ∧ t.out = t.lines

/-! ### Start -/

/-- R67, R80, R110, R111, R143, R161: what power-on and an external reset leave, and what only the reset keeps. That
the straps come with the command and the input lines stand is the model's choice (log entries 1 and 38), and so is an
earlier-run mark that stands on, set or clear, through a reset with no first-out kept (log entry 23). -/
def Obligations.PowerOnAndResetValues : Prop :=
  ∀ (straps : BitVec 5) (s : State),
    (∃ t, exec (.powerOn straps) s = .next t ∧ t.cfl.stage = .loading ∧ t.cfl.berth = straps.toNat ∧
      t.csq.state = .start ∧ t.csq.mask = true ∧ t.csq.proc = none ∧ t.csq.log = [] ∧ t.csq.seq = 0 ∧
      t.csq.marker = none ∧ t.ptu.latched = [] ∧ t.ptu.firstOut = none ∧ t.ptu.earlierRun = false ∧
      t.bkd.state = .opening ∧ t.bkd.hold = false ∧ t.bkd.closePulse = none ∧ t.bkd.tripPulse = some 100 ∧
      t.bkd.upstream = false ∧ t.slc.link = .down ∧ t.slc.queue = [] ∧ t.tbc.can = .off ∧ t.tbc.queue = [] ∧
      t.tbc.peers = [] ∧ t.clu.claim = 0 ∧ t.clu.stepHeld = false ∧ t.atu.statuses = [] ∧ t.pins = s.pins) ∧
    (∃ t, exec .resetAsserted s = .next t ∧ t.cfl.stage = .reset ∧ t.cfl.external = true ∧
      t.csq.state = .start ∧ t.csq.mask = true ∧ t.csq.proc = none ∧ t.csq.log = s.csq.log ∧ t.csq.seq = s.csq.seq ∧
      t.csq.marker = s.csq.marker ∧ t.ptu.latched = s.ptu.latched ∧ t.ptu.firstOut = s.ptu.firstOut ∧
      t.ptu.firstOutTime = s.ptu.firstOutTime ∧ t.ptu.age = s.ptu.age ∧
      t.ptu.earlierRun = (s.ptu.earlierRun || s.ptu.firstOut.isSome) ∧ t.bkd.state = .opening ∧ t.bkd.hold = false ∧
      t.bkd.closePulse = none ∧ t.bkd.tripPulse = some 100 ∧ t.bkd.upstream = s.bkd.upstream ∧
      t.slc.link = .down ∧ t.slc.queue = [] ∧ t.tbc.can = .off ∧ t.tbc.queue = [] ∧ t.tbc.peers = [] ∧
      t.clu.claim = 0 ∧ t.clu.stepHeld = false ∧ t.atu.statuses = [] ∧ t.pins = s.pins) ∧
    (s.cfl.stage = .reset →
      exec (.resetReleased straps) s =
        .next (s.setCfl { s.cfl with stage := .loading, berth := straps.toNat }).refresh)

/-- R180, R175: a load fails on a wrong CRC, on a strap number outside 1 to 16, on a format code other than 1, on an
allowed-modes byte outside 1 to 3, on a figure out of range; CONFIG-FAULT shows on the attention line and on all four
lamps, which flash fast in step, and nothing else starts. That the lamps are lit at the end of the load and toggle with the
pattern clock is the model's choice (log entry 27). -/
def Obligations.ConfigFaultOnABadLoad : Prop :=
  (∀ (image : List Byte) (s : State), s.cfl.stage = .loading →
    (image.drop 62 ≠ crcBytes (image.take 62) ∨ s.own = 0 ∨ 16 < s.own ∨
      (Figures.ofImage image).inRange = false ∨ fieldNat image 0 1 ≠ 1 ∨ fieldNat image 14 1 = 0 ∨
      3 < fieldNat image 14 1) →
    ∃ t, exec (.configLoadEnd image) s = .next t ∧ t.cfl = { s.cfl with stage := .configFault } ∧
      t.tbc = { s.tbc with can := .listening } ∧ t.csq = s.csq ∧ t.bkd = s.bkd ∧ t.ptu = s.ptu ∧ t.psm = s.psm ∧
      t.esd = s.esd ∧ t.slc = s.slc ∧ t.clu = s.clu ∧ t.shc = s.shc ∧ t.mtp = s.mtp ∧ t.spv = s.spv ∧ t.syc = s.syc ∧
      t.atu = s.atu ∧ t.out.attention = true ∧
      t.out.lampShore = true ∧ t.out.lampPlugs = true ∧ t.out.lampTrip = true ∧ t.out.lampWait = true) ∧
  (∀ (c : Instr) (s t : State), exec c s = .next t → t.cfl.stage = .configFault →
    t.out.attention = true ∧ t.out.lampShore = (t.pnl.clock % 2 == 0) ∧ t.out.lampPlugs = t.out.lampShore ∧
      t.out.lampTrip = t.out.lampShore ∧ t.out.lampWait = t.out.lampShore)

/-- R180, R181, R67, R10, R25, R128, R132: a successful load gives every block its figures and starts the census. -/
def Obligations.GoodLoadStartsTheCensus : Prop :=
  ∀ (image : List Byte) (s : State), s.cfl.stage = .loading → s.loadSucceeds image = true →
    let o := s.loaded (Figures.ofImage image)
    exec (.configLoadEnd image) s = .next o.conclude ∧
      o.conclude.cfl = { s.cfl with stage := .running, figs := Figures.ofImage image, census := some 3000 } ∧
      o.conclude.mtp = { Mtp.atReset with check := some 25 } ∧ o.conclude.pins = s.pins ∧
      o.1.csq.clockMs = 0 ∧ o.1.csq.state = s.csq.state ∧ o.1.psm.driven = true ∧ o.1.psm.live = true ∧
      o.1.bkd.state = (if contactReading s.pins.auxc s.pins.auxo = .opened then .opened else .opening) ∧
      (o.1.figs.solitary = false → o.1.tbc.can = .errorActive ∧ o.1.tbc.period = some 1000 ∧
        o.1.tbc.queue = [⟨.status, some 1000⟩]) ∧
      (o.1.figs.solitary = true → o.1.tbc.can = .listening ∧ o.1.tbc.queue = [] ∧ o.1.shc.pass = some 1000) ∧
      (s.cfl.external = true → ∀ m, s.csq.marker = some m → ∃ r, o.1.csq.log = appendRecord s.csq.log r ∧
        r.kind = m.kind.record ∧ r.ending = .reset ∧ r.cause = .none ∧ r.mode = m.mode ∧ r.start = m.start ∧
        r.duration = 0 ∧ r.energy = none ∧ r.residue = none ∧ r.peak = 0 ∧ o.1.csq.marker = none) ∧
      (s.pins.eStop = true → .ptuOnset .eStop ∈ o.2)

/-- R182, R25: the census ends in the first working state that the table gives, handed on as every state change is; the
presence monitor arms. A part that a live cable alone leads to ISOLATING, the switch CLOSED and every latch FREE, waits
there under the watch of 300 s: its release request is pending, and one that finds it so is absorbed while the release
interlock does not hold. That the request waits with every latch FREE is the model's choice between R182 and R6 (log
entry 51). -/
def Obligations.CensusTakesTheFirstWorkingState : Prop :=
  ∀ s : State, s.cfl.census.isSome = true → s.csq.state = .start →
    let o := s.censusEnd
    exec .censusTimerExpiry s = .next o.conclude ∧ o.conclude.cfl = { s.cfl with census := none } ∧
      o.conclude.mtp = { s.mtp with armed := true } ∧
      o.1.csq.state = s.firstWorking ∧ o.1.ptu = s.ptu ∧ o.1.bkd = s.bkd ∧ o.1.esd = s.esd ∧ o.1.psm = s.psm ∧
      (s.firstWorking = .isolating → o.1.csq.isoWatch = some 300000) ∧
      (∃ l, l.Perm (stateChanged .start s.firstWorking) ∧
        o.2 = if s.firstWorking = .isolating ∧ s.psm.live = true ∧ s.esd.state = .closed ∧ s.latchesFree = true
          then .psmAwaitDead :: l else l) ∧
      (∀ u : State, handle .psmAwaitDead u = (u.setPsm { u.psm with releasePending := true }, []) ∧
        (u.psm.releasePending = true → u.releaseInterlock = false → handle .psmRelease u = (u, []))) ∧
      (∀ u : State, (handle (.ptuSeq .start s.firstWorking) u).2 =
        if u.psm.earthPassing = false ∧ u.psm.live = true then [.ptuOnset .earthContinuity] else []) ∧
      (∀ u : State, (handle (.bkdSeq .start s.firstWorking) u).1.bkd.upstream =
        (u.bkd.upstream && s.firstWorking == .lockout))

/-- R180: the configured figures and the berth number stand until the next reset of either kind, and so does
CONFIG-FAULT, whatever else comes. -/
def Obligations.FiguresAndConfigFaultStand : Prop :=
  (∀ (c : Instr) (s t : State), isStart c = false → exec c s = .next t →
    t.figs = s.figs ∧ t.own = s.own ∧ t.cfl.stage = s.cfl.stage) ∧
  (∀ (c : Instr) (s t : State), s.cfl.stage = .configFault → exec c s = .next t →
    t.cfl.stage = .configFault ∨ (∃ n, c = .powerOn n) ∨ c = .resetAsserted)

/-! ### Plug set monitor -/

/-- R1, R8: a pilot found made puts a plug in OPEN into VALIDATING for 2 s and changes no other plug. A pilot that opens
takes the plug to OPEN: without a report from VALIDATING; from MADE as a pilot loss, which latches PILOT-LOSS on a live
cable and is a plug disturbance on a dead one. -/
def Obligations.PilotsAreValidated : Prop :=
  ∀ (i : PlugNo) (s : State), s.running = true → inPlugSet s.figs.np i = true →
    let q := s.psm.plugs.get i
    let p := s.setPins { s.pins with pilot := s.pins.pilot.set i true }
    let o := Psm.pilotOpened i s
    (q.pilot = .opened → s.settled = true →
      exec (.pilotMade i) s =
        .next (p.setPsm
          { s.psm with plugs := s.psm.plugs.set i { q with pilot := .validating, validation := some 2000 } }).refresh) ∧
    (q.pilot ≠ .opened → s.settled = true → exec (.pilotMade i) s = .next p.refresh) ∧
    exec (.pilotOpened i) s = .next o.conclude ∧ o.1 = (s.setPins o.1.pins).setPsm o.1.psm ∧
    o.1.pins = { s.pins with pilot := s.pins.pilot.set i false } ∧
    (∀ j, j ≠ i → o.1.psm.plugs.get j = s.psm.plugs.get j) ∧
    (q.pilot = .opened → o.1.psm = s.psm ∧ o.2 = []) ∧
    (q.pilot ≠ .opened → (o.1.psm.plugs.get i).pilot = .opened ∧ (o.1.psm.plugs.get i).validation = none) ∧
    (q.pilot = .validating → .csqPlugDisturbed ∉ o.2) ∧
    (q.pilot = .made → s.psm.live = true → s.psm.lossWhileLive = false →
      o.1.psm.lossWhileLive = true ∧ .pilotLoss ∈ o.conclude.ptu.latched) ∧
    (q.pilot = .made → s.psm.live = false →
      o.1.psm.lossWhileLive = false ∧ (.csqPlugDisturbed ∈ o.2 ↔ s.csq.state.disturbable = true))

/-- R1 to R5, R7, R8: validation makes a plug MADE, the earth check is taken, a feedback confirms a latch; the set state is
derived afresh, and the last confirmation ends the engage operation. A confirmed latch whose feedback drops is a latch
loss: its confirmation is withdrawn, and on a live cable PILOT-LOSS is latched, on a dead one a plug disturbance reported
before closing. A feedback of a latch commanded FREE has no effect. The engage supervision expires as LATCH-FAIL; the dead
timer's expiry sets DEAD-1S. -/
def Obligations.PlugSetFollowsItsInputs : Prop :=
  ∀ s : State,
    (∀ i : PlugNo, (s.psm.plugs.get i).validation.isSome = true →
      let o := Psm.validated i s
      exec (.validationTimerExpiry i) s = .next o.conclude ∧ (o.1.psm.plugs.get i).pilot = .made ∧
        (o.1.psm.plugs.get i).validation = none ∧ o.1.psm.setState = o.1.psm.derivedSet s.figs.np ∧
        o.1 = s.setPsm o.1.psm) ∧
    (∀ passing : Bool, s.running = true →
      let o := Psm.earthchk passing s
      exec (.earthchkChange passing) s = .next o.conclude ∧
        o.1 = (s.setPins o.1.pins).setPsm o.1.psm ∧ o.1.psm.earthPassing = passing ∧
        o.1.conditionPresent .earthContinuity = (!passing && o.1.psm.live) ∧
        o.1.pins = { s.pins with earthchk := passing } ∧ o.1.psm.plugs = s.psm.plugs ∧
        o.1.psm.setState = o.1.psm.derivedSet s.figs.np) ∧
    (∀ i : PlugNo, s.running = true → inPlugSet s.figs.np i = true → (s.psm.plugs.get i).engaged = true →
      (s.psm.plugs.get i).confirmed = false →
      let o := Psm.latchFeedback i true s
      exec (.latchFeedbackChange i true) s = .next o.conclude ∧
        o.1 = (s.setPins o.1.pins).setPsm o.1.psm ∧ (o.1.psm.plugs.get i).confirmed = true ∧
        (s.psm.engage.isSome = true → o.1.psm.plugs.allIn s.figs.np (fun q => q.confirmed) = true →
          o.1.psm.engage = none ∧ .csqLatchesEngaged ∈ o.2)) ∧
    (∀ i : PlugNo, s.running = true → inPlugSet s.figs.np i = true → (s.psm.plugs.get i).engaged = true →
      (s.psm.plugs.get i).confirmed = true →
      let o := Psm.latchFeedback i false s
      exec (.latchFeedbackChange i false) s = .next o.conclude ∧
        o.1 = (s.setPins o.1.pins).setPsm o.1.psm ∧
        o.1.psm.plugs = s.psm.plugs.set i { s.psm.plugs.get i with confirmed := false } ∧ o.1.setHeld = false ∧
        (s.psm.live = true → .csqPlugDisturbed ∉ o.2) ∧
        (s.psm.live = true → s.psm.lossWhileLive = false →
          o.1.psm.lossWhileLive = true ∧ .pilotLoss ∈ o.conclude.ptu.latched) ∧
        (s.psm.live = false →
          o.1.psm.lossWhileLive = false ∧ (.csqPlugDisturbed ∈ o.2 ↔ s.csq.state.disturbable = true))) ∧
    (∀ (i : PlugNo) (feedback : Bool), s.settled = true → (s.psm.plugs.get i).engaged = false →
      exec (.latchFeedbackChange i feedback) s =
        .next (s.setPins { s.pins with lfb := s.pins.lfb.set i feedback }).refresh) ∧
    (s.psm.engage.isSome = true →
      exec .engageSupervisionExpiry s =
        .next (Out.conclude (s.setPsm { s.psm with engage := none }, [.csqLatchFail]))) ∧
    (s.psm.deadTimer.isSome = true →
      exec .deadTimerExpiry s =
        .next (Out.conclude (s.setPsm { s.psm with deadTimer := none, dead1s := true }, [])))

/-- R3: the set state for every pattern of pilots and earth check, a plug in VALIDATING counting as not MADE; set-held is
COMPLETE with every latch of the set confirmed; every command leaves the set state so derived. -/
def Obligations.SetStateFromPilotsAndEarthCheck : Prop :=
  (∀ (np : Nat) (p : Psm), 1 ≤ np →
    (p.derivedSet np = .empty ↔ ∀ i, inPlugSet np i = true → (p.plugs.get i).pilot ≠ .made) ∧
    (p.derivedSet np = .complete ↔
      (∀ i, inPlugSet np i = true → (p.plugs.get i).pilot = .made) ∧ p.earthPassing = true) ∧
    (p.derivedSet np = .partSet ↔
      (∃ i, inPlugSet np i = true ∧ (p.plugs.get i).pilot = .made) ∧
        ((∃ i, inPlugSet np i = true ∧ (p.plugs.get i).pilot ≠ .made) ∨ p.earthPassing = false))) ∧
  (∀ s : State, s.setHeld = true ↔
    s.psm.setState = .complete ∧ ∀ i, inPlugSet s.figs.np i = true → (s.psm.plugs.get i).confirmed = true) ∧
  (∀ (c : Instr) (s t : State), s.SetDerived → exec c s = .next t → t.SetDerived)

/-! ### Earthing switch drive -/

/-- R11, R14, R15, R16: the contacts end a travel at its target; an invalid reading, a position left without a command and
an expired travel are FAULT. In FAULT an end position starts the count of 1 s afresh, any other reading cancels it, and a
position held to the end of it ends FAULT there. -/
def Obligations.EarthingSwitchMovesAndFails : Prop :=
  ∀ s : State, s.running = true →
    (s.esd.state = .moving → s.esd.dir ≠ .toClosed →
      let o := Esd.positions false true s
      exec (.eswPositionChange false true) s = .next o.conclude ∧
        o.1 = (s.setPins o.1.pins).setEsd o.1.esd ∧ o.1.esd.state = .opened ∧
        o.1.esd.driving = false ∧ o.1.esd.travel = none ∧ o.2 = [.bkdRetest, .csqSwitch]) ∧
    (s.esd.state = .moving → s.esd.dir ≠ .toOpen →
      let o := Esd.positions true false s
      exec (.eswPositionChange true false) s = .next o.conclude ∧
        o.1 = (s.setPins o.1.pins).setEsd o.1.esd ∧ o.1.esd.state = .closed ∧
        o.1.esd.driving = false ∧ o.1.esd.travel = none ∧ o.2 = [.bkdRetest, .csqSwitch]) ∧
    (∀ posc poso : Bool,
      (posc = true ∧ poso = true ∧ s.esd.state ≠ .fault) ∨
        (s.esd.state = .opened ∧ (posc = true ∨ poso = false)) ∨
        (s.esd.state = .closed ∧ (posc = false ∨ poso = true)) →
      let o := Esd.positions posc poso s
      exec (.eswPositionChange posc poso) s = .next o.conclude ∧
        o.1 = (s.setPins o.1.pins).setEsd o.1.esd ∧ o.1.esd.state = .fault ∧
        o.1.esd.driving = false ∧ o.1.esd.travel = none ∧ o.1.esd.request = .none ∧
        (o.1.esd.settle = if posc = poso then none else some 1000) ∧ .ptuCondition .earthingSwitch ∈ o.2) ∧
    (s.settled = true → s.esd.state = .fault → ∀ posc poso : Bool,
      exec (.eswPositionChange posc poso) s =
        .next ((s.setPins { s.pins with posc := posc, poso := poso }).setEsd
          { s.esd with settle := if posc = poso then none else some 1000 }).refresh) ∧
    (s.esd.travel.isSome = true →
      let o := Esd.travelExpired s
      exec .eswTravelTimerExpiry s = .next o.conclude ∧ o.1 = s.setEsd o.1.esd ∧ o.1.esd.state = .fault ∧
        o.1.esd.driving = false ∧ o.1.esd.travel = none ∧ o.1.esd.request = .none ∧
        .ptuCondition .earthingSwitch ∈ o.2) ∧
    (s.esd.state = .fault → s.esd.settle.isSome = true → s.pins.posc ≠ s.pins.poso →
      let o := Esd.settled s
      exec .eswSettleTimerExpiry s = .next o.conclude ∧ o.1 = s.setEsd o.1.esd ∧
        o.1.esd.state = (if s.pins.posc = true then .closed else .opened) ∧ o.1.esd.driving = false ∧
        o.1.esd.settle = none ∧ o.1.conditionPresent .earthingSwitch = false ∧ o.2 = [.bkdRetest, .csqSwitch])

/-- R12 to R14: no hand-off asserts a drive output but under the interlock of its direction. That the moves of the switch
come first among what is due after an event is the model's choice (log entry 6). Those moves are: a pending request at
rest whose interlock holds is carried out, its travel timed at 15 s; in a travel the output is asserted or released to
follow the interlock of its direction, with the timer running on. Where nothing is due the output of a travel agrees with
that interlock. -/
def Obligations.SwitchDrivenOnlyUnderItsInterlock : Prop :=
  (∀ (h : Handoff) (s : State), s.esd.driving = false → (handle h s).1.esd.driving = true →
    ((handle h s).1.esd.dir = .toOpen ∧ s.setHeld = true) ∨
    ((handle h s).1.esd.dir = .toClosed ∧ s.closeInterlock = true)) ∧
  (∀ s : State,
    let e := s.esd
    let atRest := e.state = .opened ∨ e.state = .closed ∨ (e.state = .moving ∧ e.dir = .none)
    let travel (dir : EswDir) : Out :=
      (s.setEsd { e with state := .moving, dir := dir, driving := true, travel := some 15000, request := .none },
        if e.state = .moving then [] else [.bkdRetest, .csqSwitch])
    (e.request = .closing → atRest → s.closeInterlock = true → s.due = some (travel .toClosed)) ∧
    (e.request = .opening → atRest → s.setHeld = true → s.due = some (travel .toOpen)) ∧
    (e.state = .moving → e.dir = .toClosed → e.driving ≠ s.closeInterlock →
      s.due = some (s.setEsd { e with driving := s.closeInterlock }, [])) ∧
    (e.state = .moving → e.dir = .toOpen → e.driving ≠ s.setHeld →
      s.due = some (s.setEsd { e with driving := s.setHeld }, [])) ∧
    (∀ o, Esd.due s = some o → s.due = some o ∧
      (o.1.esd.driving = true →
        (o.1.esd.dir = .toOpen ∧ s.setHeld = true) ∨ (o.1.esd.dir = .toClosed ∧ s.closeInterlock = true))) ∧
    (s.due = none → e.state = .moving →
      (e.dir = .toClosed → e.driving = s.closeInterlock) ∧ (e.dir = .toOpen → e.driving = s.setHeld)))

/-! ### Metering port, supply prover, synchronism checker -/

/-- R18, R19, R21, R24, R183: a discarded delivery touches nothing but a running recovery; an accepted one becomes the last
set, sets the presence latch, arms the monitor and counts a recovery. The bits of a delivery spell its bytes, each from its
most significant bit. -/
def Obligations.DeliveryAcceptedOrDiscarded : Prop :=
  (∀ (bits : List Bool) (s : State), s.running = true →
    let d := bytesOfBits bits
    (s.settled = true → (bits.length ≠ 288 ∨ converterFault d = true ∨
        s.mtp.last.any (fun r => r.serial == fieldNat d 35 1) = true) →
      exec (.meteringDelivery bits) s =
        .next (s.setMtp { s.mtp with recovery := if s.mtp.lost then 0 else s.mtp.recovery }).refresh) ∧
    (bits.length = 288 → converterFault d = false → s.mtp.last.any (fun r => r.serial == fieldNat d 35 1) = false →
      ∃ t, exec (.meteringDelivery bits) s = .next t ∧ t.mtp.last = some (readingSetOf d) ∧ t.mtp.latch = true ∧
        t.mtp.armed = true ∧ t.mtp.check = s.mtp.check ∧
        (s.mtp.lost = false → t.mtp.lost = false ∧ t.mtp.miss = s.mtp.miss) ∧
        (s.mtp.lost = true → s.mtp.recovery + 1 < 50 → t.mtp.lost = true ∧ t.mtp.recovery = s.mtp.recovery + 1) ∧
        (s.mtp.lost = true → 50 ≤ s.mtp.recovery + 1 →
          t.mtp.lost = false ∧ t.mtp.recovery = 0 ∧ t.mtp.miss = 0))) ∧
  (∀ d : List Byte, bytesOfBits (d.flatMap bitsOfByte) = d)

/-- R22, R24, R32, R90: a check event that finds the latch set clears it and the miss count, and leaves METERING-LOST and its
recovery count; one that finds it clear counts a silence; the second in a row is METERING-LOST, latched at the protection
unit, with the proof and any permission withdrawn; a further one leaves the miss count at 2 and the recovery count at 0. -/
def Obligations.TwoSilentChecksLoseMetering : Prop :=
  ∀ s : State, s.mtp.check.isSome = true →
    (s.settled = true → s.mtp.armed = false →
      exec .checkEvent s = .next (s.setMtp { s.mtp with check := some 25 }).refresh) ∧
    (s.settled = true → s.mtp.armed = true → s.mtp.latch = true →
      exec .checkEvent s = .next (s.setMtp { s.mtp with check := some 25, latch := false, miss := 0 }).refresh) ∧
    (s.settled = true → s.mtp.armed = true → s.mtp.latch = false → s.mtp.lost = false → s.mtp.miss = 0 →
      exec .checkEvent s = .next (s.setMtp { s.mtp with check := some 25, miss := 1 }).refresh) ∧
    (s.settled = true → s.mtp.armed = true → s.mtp.latch = false → s.mtp.lost = true →
      exec .checkEvent s = .next (s.setMtp { s.mtp with check := some 25, miss := 2, recovery := 0 }).refresh) ∧
    (s.mtp.armed = true → s.mtp.latch = false → s.mtp.lost = false → s.mtp.miss ≠ 0 →
      ∃ t, exec .checkEvent s = .next t ∧ t.mtp.lost = true ∧ t.mtp.miss = 2 ∧ t.mtp.recovery = 0 ∧
        .meteringLost ∈ t.ptu.latched ∧ t.spv.proven = false ∧ t.spv.stability = 0 ∧ t.syc.permit = false ∧
        t.syc.confirm = false)

/-- R28: `k` good sets in a row, taken in a counting state from a stability count of 0, prove the supply exactly when
`k` has reached N, with the count at N; before that a set that is not good sets the count to 0. R29, R30: of the bad sets
in a row that a proven supply meets, the fifth declares shore loss, and those before it leave the stability count alone:
nothing is then proven, and the SHORE-LOSS condition is present in the states where the shore may feed the ferry. R31: the
condition goes with the Nth good set in a row, or with a new proof; that the recovery count is then 0 is the model's choice
for a new proof (log entry 48). -/
def Obligations.NGoodSetsProveTheSupply : Prop :=
  (∀ (n k : Nat) (v : Spv), 1 ≤ n → v.stability = 0 → v.proven = false →
    (k < n → ((Spv.prove n true)^[k] v).stability = k ∧ ((Spv.prove n true)^[k] v).proven = false ∧
      ((Spv.prove n true)^[k] v).shoreLoss = v.shoreLoss ∧
      Spv.prove n false ((Spv.prove n true)^[k] v) = { (Spv.prove n true)^[k] v with stability := 0 }) ∧
    (k = n → ((Spv.prove n true)^[k] v).proven = true ∧ ((Spv.prove n true)^[k] v).stability = n ∧
      ((Spv.prove n true)^[k] v).shoreLoss = false ∧ ((Spv.prove n true)^[k] v).recovery = 0)) ∧
  (∀ (k : Nat) (state : SeqState) (v : Spv), v.proven = true → v.badRun = 0 → k < 5 →
    let w := (fun v => (Spv.test true state v).1)^[k] v
    let o := Spv.test true state w
    let fed := state ∈ [SeqState.parallel, .shore, .releaseWait, .handback, .unloading]
    w = { v with badRun := k } ∧ (Spv.test false state w).1 = v ∧
    (k < 4 → o = ({ v with badRun := k + 1 }, [])) ∧
    (k = 4 → o.1.proven = false ∧ o.1.stability = 0 ∧ o.1.badRun = 0 ∧
      (fed → o.1.shoreLoss = true ∧ o.1.recovery = 0 ∧ o.2 = [.csqShoreLoss, .ptuCondition .shoreLoss]) ∧
      (¬fed → o.1.shoreLoss = v.shoreLoss ∧ o.2 = [.csqShoreLoss]))) ∧
  (∀ (n k : Nat) (v : Spv), 1 ≤ n → v.shoreLoss = true → v.recovery = 0 →
    let w := (Spv.recover n true)^[k] v
    (k < n → w = { v with recovery := k } ∧ Spv.recover n false w = v) ∧
    (k = n → w = { v with shoreLoss := false }))

/-- R84: with the angle, the slip and the closing time within their ranges, the predicted angle is the one number within
−1799 to +1800 that differs from θ plus the truncated advance by a whole turn or none, and the advance is at most 360.
A set evaluated in SYNC-ACTIVE leaves neither Δf nor a prediction with a frequency clamped, its Δf alone with a slip
beyond the limit, and both otherwise; in the first two cases it fails. -/
def Obligations.PredictedAngleStaysInRange : Prop :=
  (∀ (theta df : Int) (tClose : Nat), -1799 ≤ theta → theta ≤ 1800 → df.natAbs ≤ 500 → tClose ≤ 200 →
    -1799 ≤ predictAngle theta df tClose ∧ predictAngle theta df tClose ≤ 1800 ∧
    ((36 * df * tClose).tdiv 10000).natAbs ≤ 360 ∧
    (predictAngle theta df tClose - (theta + (36 * df * tClose).tdiv 10000) = 0 ∨
      (predictAngle theta df tClose - (theta + (36 * df * tClose).tdiv 10000)).natAbs = 3600)) ∧
  (∀ (r : ReadingSet) (s : State), s.syc.watch = .syncActive →
    let y := (Syc.onSet r false s).1.syc
    let clamped := r.shoreFClamp = true ∨ r.shipFClamp = true
    let df := (r.shipF : Int) - r.shoreF
    (clamped → y.lastDf = none ∧ y.lastPred = none ∧ y.verdict ≠ .none ∧ y.good = 0) ∧
    (¬clamped → s.figs.slip < df.natAbs →
      y.lastDf = some df ∧ y.lastPred = none ∧ y.verdict ≠ .none ∧ y.good = 0) ∧
    (¬clamped → df.natAbs ≤ s.figs.slip →
      y.lastDf = some df ∧ y.lastPred = some (predictAngle r.theta df s.figs.tClose)))

/-- R85, R86: in SYNC-ACTIVE a sync-good set counts, the third in a row gives the close permission with one PERMIT, and
a set that is not good ends it with PERMIT-WITHDRAWN. R88: of the sets in a row with a NEGATIVE ship sequence the 25th is
reported, any other sequence starts the run again. R89: of the dead sets in a row the 25th confirms the dead bus, and a
live set ends the run and withdraws the confirmation. -/
def Obligations.ThreeGoodSetsPermitTheClose : Prop :=
  ∀ (r : ReadingSet) (f : Figures) (y : Syc),
    (r.verdictAt f = .none → y.good ≤ 1 → y.permit = false →
      (y.evaluate r f).1.good = y.good + 1 ∧ (y.evaluate r f).1.permit = false ∧ (y.evaluate r f).2 = []) ∧
    (r.verdictAt f = .none → 2 ≤ y.good → y.permit = false →
      (y.evaluate r f).1.permit = true ∧ (y.evaluate r f).2 = [.csqPermit]) ∧
    (r.verdictAt f ≠ .none →
      (y.evaluate r f).1.good = 0 ∧ (y.evaluate r f).1.permit = false ∧
        (y.evaluate r f).2 = if y.permit then [.csqPermitWithdrawn] else []) ∧
    (r.shipSeq = .negative → y.negative = 0 → ∀ k,
      let q := (fun y : Syc => (y.countNegative r).1)^[k] y
      q = { y with negative := min 25 k } ∧ (q.countNegative r).2 = if k = 24 then [.csqNegative] else []) ∧
    (r.shipSeq ≠ .negative → y.countNegative r = ({ y with negative := 0 }, [])) ∧
    (r.shipV.l1 < 100 → r.shipV.l2 < 100 → r.shipV.l3 < 100 → y.dead = 0 → y.confirm = false → ∀ k,
      let q := (fun y : Syc => (y.countDead r).1)^[k] y
      q.dead = min 25 k ∧ q.confirm = decide (25 ≤ k) ∧ (0 < k → q.verdict = .dead) ∧
        (q.countDead r).2 = if k = 24 then [.csqDeadConfirmed] else []) ∧
    (100 ≤ r.shipV.l1 ∨ 100 ≤ r.shipV.l2 ∨ 100 ≤ r.shipV.l3 →
      y.countDead r =
        ({ y with dead := 0, confirm := false, verdict := .live }, if y.confirm then [.csqDeadWithdrawn] else []))

/-- R85: the conditions of the table, tested in its order: the first one that a set does not meet is its verdict, and a
set that meets every one is sync-good, with the verdict NONE. -/
def Obligations.SyncGoodMeetsEveryCondition : Prop :=
  ∀ (r : ReadingSet) (f : Figures),
    let unclamped := r.shoreVClamp = false ∧ r.shipVClamp = false ∧ r.shoreFClamp = false ∧ r.shipFClamp = false
    let shipVoltage := ∀ v ∈ [r.shipV.l1, r.shipV.l2, r.shipV.l3], 900 ≤ v ∧ v ≤ 1100
    let difference := ∀ p ∈ [(r.shipV.l1, r.shoreV.l1), (r.shipV.l2, r.shoreV.l2), (r.shipV.l3, r.shoreV.l3)],
      ((p.1 : Int) - p.2).natAbs ≤ f.vDiff
    let slip := r.df.natAbs ≤ f.slip
    let sequence := r.shoreSeq = .positive ∧ r.shipSeq = .positive
    let angle := (predictAngle r.theta r.df f.tClose).natAbs ≤ f.angle
    (r.verdictAt f = .clamp ↔ ¬unclamped) ∧
    (r.verdictAt f = .shipVoltage ↔ unclamped ∧ ¬shipVoltage) ∧
    (r.verdictAt f = .difference ↔ unclamped ∧ shipVoltage ∧ ¬difference) ∧
    (r.verdictAt f = .slip ↔ unclamped ∧ shipVoltage ∧ difference ∧ ¬slip) ∧
    (r.verdictAt f = .sequence ↔ unclamped ∧ shipVoltage ∧ difference ∧ slip ∧ ¬sequence) ∧
    (r.verdictAt f = .angle ↔ unclamped ∧ shipVoltage ∧ difference ∧ slip ∧ sequence ∧ ¬angle) ∧
    (r.verdictAt f = .none ↔ unclamped ∧ shipVoltage ∧ difference ∧ slip ∧ sequence ∧ angle)

/-! ### Changeover sequencer: timers -/

/-- R38, R43 to R48, R60: an expired phase limit aborts the TRANSFER-IN with the cause of its phase: an ABORTED record
is written and answered with REFUSED, the retry count rises, the requests are withdrawn, and the way out is ISOLATING
with an open order given first, or at once HOOKED or VACANT where the breaker is OPEN, the switch CLOSED and the latches
free to go. R54, R55: in HANDBACK the limit ends it ABORTED and returns to SHORE; in UNLOADING it forces the opening. -/
def Obligations.PhaseLimitEndsThePhase : Prop :=
  ∀ (s : State) (p : Procedure), s.csq.phase.isSome = true → s.csq.proc = some p →
    let o := Csq.phaseExpired s
    exec .phaseTimerExpiry s = .next o.conclude ∧ o.1 = s.setCsq o.1.csq ∧
    (p.kind = .transferIn → ∀ c, s.phaseCause = some c →
      o.1.csq.log = appendRecord s.csq.log (s.recordNow .transferIn .aborted c p.mode p.start) ∧
      o.1.csq.seq = nextSeq s.csq.seq ∧ o.1.csq.proc = none ∧ o.1.csq.marker = none ∧ o.1.csq.phase = none ∧
      (o.1.csq.state ≠ .vacant → o.1.csq.retry = min 3 (s.csq.retry + 1)) ∧
      .slcOrder (.refused c) ∈ o.2 ∧ (∀ h ∈ withdrawals, h ∈ o.2) ∧
      (o.1.csq.state = .isolating ∧ o.2.head? = some .bkdOpen ∨
        (o.1.csq.state = .hooked ∨ o.1.csq.state = .vacant) ∧ s.csq.state ≠ .parallel ∧
          s.bkd.state = .opened ∧ s.esd.state = .closed ∧ s.releaseAtOnce = true ∧ .psmRelease ∈ o.2)) ∧
    (p.kind = .handback → s.csq.state = .handback →
      o.1.csq.log = appendRecord s.csq.log (s.recordNow .handback .aborted .shipTimeout p.mode p.start) ∧
      o.1.csq.state = .shore ∧ o.1.csq.proc = none ∧ o.1.csq.phase = none ∧
      o.1.csq.releaseDelay = s.csq.releaseDelay ∧ .slcOrder (.refused .shipTimeout) ∈ o.2) ∧
    (s.csq.state = .unloading →
      o.1.csq.log = s.csq.log ∧ o.1.csq.state = .isolating ∧ .bkdOpen ∈ o.2 ∧
      o.1.csq.proc = some { p with fixed := some (.forced, .unloadTimeout) })

/-- R49, R51, R55: the release delay's expiry forces the opening, with the HANDBACK's outcome fixed; in SHORE it opens
a HANDBACK for it. The slot timer's expiry frees the step slot, which the breaker drive and the peers hear. R57, R155:
the quiet timer's expiry releases the claim: no floor, no charge part, nothing pending, and the peers and the ship hear a
changed claim. R58: the watch of ISOLATING makes CABLE-LIVE present, a status at its onset. -/
def Obligations.SequencerTimersExpire : Prop :=
  ∀ s : State,
    (s.csq.releaseDelay.isSome = true →
      let o := Csq.releaseExpired s
      exec .releaseDelayExpiry s = .next o.conclude ∧ o.1 = s.setCsq o.1.csq ∧ o.1.csq.releaseDelay = none ∧
      (∀ p, s.csq.proc = some p →
        s.csq.state = .releaseWait ∨ s.csq.state = .handback ∨ s.csq.state = .unloading →
        o.1.csq.state = .isolating ∧ o.1.csq.log = s.csq.log ∧ .bkdOpen ∈ o.2 ∧
        o.1.csq.isoWatch = some 300000 ∧
        o.1.csq.proc = some { p with fixed := some (.forced, .releaseExpired) }) ∧
      (s.csq.proc = none → s.csq.state = .shore →
        o.1.csq.state = .isolating ∧ .bkdOpen ∈ o.2 ∧
        o.1.csq.proc = some ⟨.handback, .none, s.csq.runTime, some (.forced, .releaseExpired)⟩ ∧
        o.1.csq.marker = some ⟨.handback, .none, s.csq.runTime⟩)) ∧
    (s.csq.slotTimer.isSome = true →
      exec .slotTimerExpiry s =
        .next (Out.conclude (s.setCsq { s.csq with slotTimer := none }, [.cluFreeStep]))) ∧
    (s.clu.stepHeld = true →
      (handle .cluFreeStep s).1 = s.setClu { s.clu with stepHeld := false } ∧
      (∀ h ∈ [Handoff.tbcStatus, .bkdSlot false, .tbcOrder .stepFree], h ∈ (handle .cluFreeStep s).2)) ∧
    (s.csq.quiet.isSome = true →
      exec .quietTimerExpiry s = .next (Out.conclude (s.setCsq { s.csq with quiet := none }, [.cluRelease]))) ∧
    (let o := handle .cluRelease s;
      o.1 = s.setClu o.1.clu ∧ o.1.clu.claim = 0 ∧ o.1.clu.pendingFloor = none ∧ o.1.clu.pendingCeiling = none ∧
        o.1.clu.floorReq = none ∧ (∀ b, o.1.clu.bid = some b → b.kind = .step) ∧
        (s.clu.claim ≠ 0 → .slcCeiling ∈ o.2 ∧ .tbcStatus ∈ o.2 ∧ o.1.clu.grace = none)) ∧
    (s.csq.isoWatch.isSome = true → s.csq.state = .isolating → s.running = true → s.settled = true →
      let u := s.setCsq { s.csq with isoWatch := none, cableLive := true }
      exec .isolatingWatchExpiry s = .next (u.setAtu (s.atu.take u.presentSources s.figs)).refresh ∧
        (.cableLive ∉ s.atu.present → .cableLive ∈ (s.atu.take u.presentSources s.figs).statuses))

/-! ### Changeover sequencer: the panel -/

/-- R40, R51: a CONNECT press in HOOKED with the link UP, no trip latched and a mode available clears the mask and the
retry count, opens a TRANSFER-IN and enters PROVING for 600 s; in RELEASE-WAIT it cancels the release; in every other
case it is refused with the flash, and the sequencer is as it was. -/
def Obligations.ConnectStartsCancelsOrIsRefused : Prop :=
  ∀ s : State, s.pnl.connect.settle.isSome = true →
    let o := Pnl.press .connect Csq.connect s
    let mode := s.chooseMode .closed
    let closedOk := s.figs.allowClosed = true ∧ s.slc.offersClosed = true
    let openOk := s.figs.allowOpen = true ∧ s.slc.offersOpen = true
    exec .connectPress s = .next o.conclude ∧
    (mode = .closed ↔ closedOk) ∧ (mode = .opened ↔ ¬closedOk ∧ openOk) ∧ (mode = .none ↔ ¬closedOk ∧ ¬openOk) ∧
      o.1 = (s.setPnl o.1.pnl).setCsq o.1.csq ∧ o.1.pnl.connect.state = .held ∧ o.1.pnl.connect.settle = none ∧
    (s.csq.state = .hooked → s.slc.link = .up → s.ptu.latched = [] → mode ≠ .none →
      o.1.csq.state = .proving ∧ o.1.csq.mask = false ∧ o.1.csq.retry = 0 ∧ o.1.csq.mode = mode ∧
      o.1.csq.proc = some ⟨.transferIn, mode, s.csq.runTime, none⟩ ∧
      o.1.csq.marker = some ⟨.transferIn, mode, s.csq.runTime⟩ ∧ o.1.csq.phase = some 600000 ∧
      o.1.csq.peak = 0 ∧ .csqEntered .proving ∈ o.2) ∧
    (s.csq.state = .releaseWait → ∀ p, s.csq.proc = some p → p.kind = .handback →
      o.1.csq.state = .shore ∧ o.1.csq.releaseDelay = none ∧ o.1.csq.proc = none ∧
      o.1.csq.log = appendRecord s.csq.log (s.recordNow .handback .superseded .operator p.mode p.start) ∧
      .slcOrder (.release true) ∈ o.2) ∧
    (s.csq.state ≠ .releaseWait →
      s.csq.state ≠ .hooked ∨ s.slc.link ≠ .up ∨ s.ptu.latched ≠ [] ∨ mode = .none →
      o.1.csq = s.csq ∧ o.2 = [.pnlRefused]) ∧
    (s.running = true →
      (handle .pnlRefused s).1 =
        s.setPnl { s.pnl with flash := some 750, flashToggle := some 125, flashLit := true })

/-- R50, R61: a short RELEASE press in SHORE opens a HANDBACK, tells the ship and starts the release delay or lets it run
on; in the phases of a TRANSFER-IN it supersedes it, without a rise of the retry count, in PARALLEL with the breaker
ordered open before anything else; elsewhere it has no effect. R56:
a hard release in SHORE, RELEASE-WAIT, HANDBACK or UNLOADING orders the breaker open with FORCED HARD-RELEASE. -/
def Obligations.ReleaseButtonShortAndHard : Prop :=
  ∀ s : State,
    (s.pnl.release.settle.isSome = true →
      let o := Pnl.press .release Csq.release s
      exec .releasePress s = .next o.conclude ∧ o.1 = (s.setPnl o.1.pnl).setCsq o.1.csq ∧
      (s.csq.state = .shore →
        o.1.csq.state = .releaseWait ∧ o.1.csq.proc = some ⟨.handback, .none, s.csq.runTime, none⟩ ∧
        o.1.csq.releaseDelay = some (s.csq.releaseDelay.getD (s.figs.releaseDelay * 1000)) ∧
        .slcOrder (.release false) ∈ o.2) ∧
      (s.csq.state.transferring = true ∨ s.csq.state = .parallel → ∀ p, s.csq.proc = some p →
        p.kind = .transferIn →
        o.1.csq.proc = none ∧ (o.1.csq.state ≠ .vacant → o.1.csq.retry = s.csq.retry) ∧
        o.1.csq.log = appendRecord s.csq.log (s.recordNow .transferIn .superseded .operator p.mode p.start) ∧
        (∀ h ∈ withdrawals, h ∈ o.2) ∧
        (s.csq.state = .parallel → o.1.csq.state = .isolating ∧ o.2.head? = some .bkdOpen)) ∧
      (s.csq.state ∈ [SeqState.start, .vacant, .hooked, .releaseWait, .handback, .unloading, .isolating, .lockout] →
        o.1.csq = s.csq ∧ o.2 = [])) ∧
    (s.pnl.release.state = .held → s.pnl.release.reported = false →
      let o := Pnl.held .release Csq.hardRelease s
      exec .hardRelease s = .next o.conclude ∧
        o.1 = (s.setPnl o.1.pnl).setCsq o.1.csq ∧ o.1.pnl.release.reported = true ∧
      (s.csq.state ∈ [SeqState.shore, .releaseWait, .handback, .unloading] →
        o.1.csq.state = .isolating ∧ o.1.csq.releaseDelay = none ∧ .bkdOpen ∈ o.2 ∧
        (∀ p, s.csq.proc = some p → o.1.csq.proc = some { p with fixed := some (.forced, .hardRelease) }) ∧
        (s.csq.proc = none →
          o.1.csq.proc = some ⟨.handback, .none, s.csq.runTime, some (.forced, .hardRelease)⟩)) ∧
      (s.csq.state ∉ [SeqState.shore, .releaseWait, .handback, .unloading] → o.1.csq = s.csq ∧ o.2 = []))

/-- R107, R108, R141: an ACK press removes every eligible source from the latched set, an ACK-TRIP those of its snapshot
that are eligible, and nothing else; an emptied set leaves no first-out. Neither acts in START. That the received ACK-TRIP
ends the attempt of an own frame, and lowers the receive count by 1, is the model's choice (log entries 14 and 13). R66:
the lockout clear in LOCKOUT with the latched set empty leads to HOOKED or VACANT with the cable at rest, to ISOLATING
otherwise; with a source latched, or outside LOCKOUT, it has no effect. -/
def Obligations.AcknowledgeAndLockoutClear : Prop :=
  (∀ s : State, s.running = true →
    (s.pnl.ack.settle.isSome = true →
      let o := Pnl.press .ack (Ptu.acknowledge Source.all) s
      exec .ackPress s = .next o.conclude ∧ o.1 = (s.setPnl o.1.pnl).setPtu o.1.ptu ∧ o.1.pnl.ack.state = .held ∧
      (s.csq.state = .start → o.1.ptu = s.ptu) ∧
      (s.csq.state ≠ .start →
        (∀ x, x ∈ o.1.ptu.latched ↔ x ∈ s.ptu.latched ∧ s.eligible x = false) ∧
        (s.ptu.latched ≠ [] → o.1.ptu.latched = [] → o.1.ptu.firstOut = none ∧ o.1.ptu.age = 0) ∧
        (o.1.ptu.latched ≠ [] → o.1.ptu.firstOut = s.ptu.firstOut))) ∧
    (∀ (ident : BitVec 11) (d : List Byte), s.tbc.can.onBus = true → ident.toNat = 448 → 1 ≤ s.own → d.length = 3 →
      fieldNat d 0 1 = s.own →
      let o := Tbc.frame ident d s
      let snapshot := BitVec.ofNat 16 (fieldNat d 1 2)
      exec (.ackTrip ident d) s = .next o.conclude ∧ o.1 = (s.setTbc s.tbc.heard).setPtu o.1.ptu ∧
      (s.csq.state = .start → o.1.ptu = s.ptu) ∧
      (s.csq.state ≠ .start →
        (∀ x, x ∈ o.1.ptu.latched ↔
          x ∈ s.ptu.latched ∧ (snapshot.getLsbD (x.number - 1) = false ∨ s.eligible x = false)) ∧
        (s.ptu.latched ≠ [] → o.1.ptu.latched = [] → o.1.ptu.firstOut = none ∧ o.1.ptu.age = 0) ∧
        (o.1.ptu.latched ≠ [] → o.1.ptu.firstOut = s.ptu.firstOut)))) ∧
  (∀ s : State, s.pnl.ack.state = .held → s.pnl.ack.reported = false →
    let o := Pnl.held .ack Csq.lockoutClear s
    let new : SeqState :=
      if s.cableAtRest = true then (if s.psm.setState = .complete then .hooked else .vacant) else .isolating
    exec .lockoutClear s = .next o.conclude ∧ o.1 = (s.setPnl o.1.pnl).setCsq o.1.csq ∧ o.1.pnl.ack.reported = true ∧
    (s.csq.state = .lockout → s.ptu.latched = [] →
      o.1.csq.state = new ∧ o.1.csq.mask = s.csq.mask ∧ o.1.csq.tripIso = false ∧
        o.2 = stateChanged .lockout new) ∧
    (s.csq.state ≠ .lockout ∨ s.ptu.latched ≠ [] → o.1.csq = s.csq ∧ o.2 = []))

/-- R172: a button pressed in IDLE settles for 50 ms, one let go before that is not a press; a press held is let go only
after 50 ms let go, and the button is IDLE again. R174, R175, R177: the flash toggles each 125 ms and ends dark, the
pattern clock takes its next phase, the attention pulse ends. -/
def Obligations.ButtonsFlashAndClockRun : Prop :=
  ∀ s : State, s.running = true → s.settled = true →
    (∀ (b : Button) (pressed : Bool),
      let v := s.pnl.validator b
      let p := s.setPins (s.pins.setButton b pressed)
      let left (w : Validator) : Host.Outcome State Fault Refusal := .next (p.setPnl (s.pnl.setValidator b w)).refresh
      (v.state = .idle → pressed = true →
        exec (.buttonInputChange b pressed) s =
          left { v with state := .settling, settle := some 50, since := s.csq.clockMs, reported := false }) ∧
      (v.state = .settling → pressed = false →
        exec (.buttonInputChange b pressed) s = left { v with state := .idle, settle := none }) ∧
      (v.state = .held ∨ v.state = .lockedOut → pressed = false →
        exec (.buttonInputChange b pressed) s = left { v with letgo := some (v.letgo.getD 50) }) ∧
      (v.state = .held ∨ v.state = .lockedOut → pressed = true →
        exec (.buttonInputChange b pressed) s = left { v with letgo := none })) ∧
    (∀ b : Button, (s.pnl.validator b).letgo.isSome = true →
      exec (.buttonLetgoExpiry b) s = .next (s.setPnl (s.pnl.setValidator b Validator.atReset)).refresh) ∧
    (s.pnl.flash.isSome = true → s.pnl.flashToggle.isSome = true →
      exec .refusalFlashToggle s =
        .next (s.setPnl { s.pnl with flashToggle := some 125, flashLit := !s.pnl.flashLit }).refresh) ∧
    exec .refusalFlashEnd s =
      .next (s.setPnl { s.pnl with flash := none, flashToggle := none, flashLit := false }).refresh ∧
    (s.pnl.clockTimer.isSome = true →
      exec .patternClockTick s =
        .next (s.setPnl { s.pnl with clock := (s.pnl.clock + 1) % 8, clockTimer := some 125 }).refresh) ∧
    exec .attentionPulseEnd s = .next (s.setAtu { s.atu with pulse := none }).refresh

/-- R174 to R177: the lamps and the attention line that a command leaves show the state it leaves; a status is set
exactly while its source is present and it was set before or its source has had its onset. -/
def Obligations.LampsAndAttentionFollowTheState : Prop :=
  (∀ (c : Instr) (s t : State), exec c s = .next t → t.running = true →
    (t.csq.state = .shore → t.out.lampShore = true) ∧
    (t.csq.state ∈ [SeqState.proving, .ready, .syncing, .deadwait, .parallel, .releaseWait, .handback, .unloading] →
      t.out.lampShore = decide (t.pnl.clock % 8 < 4)) ∧
    (t.csq.state = .isolating → t.out.lampShore = (t.csq.tripIso && t.pnl.clock % 2 == 0)) ∧
    (t.csq.state ∈ [SeqState.start, .vacant, .hooked, .lockout] → t.out.lampShore = false) ∧
    (t.csq.state ≠ .lockout → t.out.lampTrip = !t.ptu.latched.isEmpty) ∧
    (t.csq.state = .lockout → t.out.lampTrip = (t.pnl.clock % 2 == 0)) ∧
    (t.psm.setState = .complete → t.out.lampPlugs = true) ∧
    (t.pnl.flash.isSome = true → t.out.lampWait = t.pnl.flashLit) ∧
    (t.pnl.flash = none → t.out.lampWait = (t.clu.waiting && decide (t.pnl.clock % 8 < 4))) ∧
    (t.figs.pulseMode = true → t.out.attention = t.atu.pulse.isSome) ∧
    (t.figs.pulseMode = false →
      (t.out.attention = true ↔ ∃ x ∈ t.atu.statuses, t.figs.enable.getLsbD x.bit = true))) ∧
  (∀ (s : State) (x : Status), s.running = true →
    (x ∈ (handle .atuSources s).1.atu.statuses ↔
      s.sourcePresent x = true ∧ (x ∈ s.atu.statuses ∨ x ∉ s.atu.present)))

/-! ### Breaker drive -/

/-- R68, R72, R73, R76, R78, R79: what each contact reading does in each breaker state. -/
def Obligations.ContactsMoveTheBreakerState : Prop :=
  ∀ (auxc auxo : Bool) (s : State), s.running = true →
    let o := Bkd.contacts auxc auxo s
    let r := contactReading auxc auxo
    exec (.auxContactChange auxc auxo) s = .next o.conclude ∧
      o.1 = (s.setPins o.1.pins).setBkd o.1.bkd ∧ o.1.bkd.reading = r ∧
    o.1.pins = { s.pins with auxc := auxc, auxo := auxo } ∧
    (r = .closed ↔ auxc = true ∧ auxo = false) ∧ (r = .opened ↔ auxc = false ∧ auxo = true) ∧
    (s.bkd.state = .closing → r = .closed →
      o.1.bkd.state = .closed ∧ o.1.bkd.closeSup = none ∧ o.1.bkd.hold = s.bkd.hold ∧ .csqBreaker .closed ∈ o.2) ∧
    (s.bkd.state = .closing → r ≠ .closed → o.1.bkd = { s.bkd with reading := r } ∧ o.2 = []) ∧
    (s.bkd.state = .closed → r = .opened →
      o.1.bkd.state = .opened ∧ o.1.bkd.hold = false ∧ .ptuOnset .breakerDrop ∈ o.2) ∧
    (s.bkd.state = .closed → r = .closed → o.1.bkd.contactWatch = none ∧ o.2 = []) ∧
    (s.bkd.state = .closed → r = .between ∨ r = .invalid →
      o.1.bkd.state = .closed ∧ o.1.bkd.contactWatch = some (s.bkd.contactWatch.getD 100) ∧ o.2 = []) ∧
    (s.bkd.state = .opening → r = .opened →
      o.1.bkd.state = .opened ∧ o.1.bkd.openSup = none ∧ .csqBreaker .opened ∈ o.2) ∧
    (s.bkd.state = .failed → r = .opened → o.1.bkd.state = .opened ∧ o.1.bkd.upstream = s.bkd.upstream) ∧
    (s.bkd.state = .opened → r ≠ .opened →
      o.1.bkd.state = .opening ∧ o.1.bkd.tripPulse = some 100 ∧ o.1.bkd.openSup = some 100 ∧
        .unexpectedClose ∈ o.conclude.ptu.latched) ∧
    (s.bkd.state = .opening ∨ s.bkd.state = .failed → r ≠ .opened →
      o.1.bkd = { s.bkd with reading := r } ∧ o.2 = [])

/-- R71, R73, R77: the ends of the CLOSE pulse, the TRIP pulse and the anti-pump period; the sequencer hears of the last
where it had a close refused under it. R74: an open ordered within the CLOSE pulse starts the anti-pump period and is
supervised to 100 ms after the pulse; a slot freed within the pulse releases CLOSE, and the 100 ms run from then; that it
is so where the trip itself frees the slot is the model's choice (log entry 53). R97: an opened emergency-stop chain is
latched at its onset. -/
def Obligations.PulsesAntiPumpAndEmergencyStop : Prop :=
  ∀ s : State,
    (s.settled = true →
      exec .closePulseEnd s = .next (s.setBkd { s.bkd with closePulse := none }).refresh ∧
      exec .tripPulseEnd s = .next (s.setBkd { s.bkd with tripPulse := none }).refresh) ∧
    (s.bkd.antiPump.isSome = true →
      exec .antiPumpExpiry s =
        .next (Out.conclude (s.setBkd { s.bkd with antiPump := none, refusedClose := false },
          if s.bkd.refusedClose then [.csqAntiPumpEnded] else []))) ∧
    (∀ n, s.bkd.closePulse = some n → s.bkd.state = .closing ∨ s.bkd.state = .closed →
      let o := handle .bkdOpen s
      let u := handle (.bkdSlot false) o.1
      o.1 = s.setBkd
        { s.bkd with
          hold := false, tripPulse := some 100, closeSup := none, contactWatch := none, state := .opening
          antiPump := some 10000, openSup := some (n + 100) } ∧
      u.1 = o.1.setBkd { o.1.bkd with slotHeld := false, closePulse := none, openSup := some 100 }) ∧
    (s.running = true → s.settled = true →
      exec (.estopChange false) s =
        .next ((s.setPins { s.pins with eStop := false }).setPtu { s.ptu with eStop := false }).refresh) ∧
    (s.running = true → s.ptu.eStop = false →
      let o := Ptu.estop true s
      exec (.estopChange true) s = .next o.conclude ∧
        o.1 = (s.setPins o.1.pins).setPtu o.1.ptu ∧ o.1.ptu = { s.ptu with eStop := true } ∧
        o.2 = [.ptuOnset .eStop] ∧ .eStop ∈ o.conclude.ptu.latched)

/-- R72, R75, R78: an expired close supervision is a failed close: HOLD off, TRIP pulse, anti-pump for 10 s, CLOSE-FAILED
before the state change. An open supervision that expires before the reading shows OPEN is FAILED with UPSTREAM-TRIP and
BREAKER-FAIL latched; that one whose reading shows OPEN all along is no failure is deduced (log entry 46). An expired
contact watch opens the breaker with BREAKER-DROP latched. -/
def Obligations.BreakerSupervisionsExpire : Prop :=
  ∀ s : State,
    (s.bkd.closeSup.isSome = true →
      let o := Bkd.closeExpired s
      exec .closeSupervisionExpiry s = .next o.conclude ∧ o.1 = s.setBkd o.1.bkd ∧ o.1.bkd.hold = false ∧
        o.1.bkd.tripPulse = some 100 ∧ o.1.bkd.antiPump = some 10000 ∧ o.1.bkd.closeSup = none ∧
        o.2.head? = some .csqCloseFailed ∧
        (s.bkd.reading ≠ .opened → o.1.bkd.state = .opening ∧ o.1.bkd.openSup = some 100) ∧
        (s.bkd.reading = .opened → o.1.bkd.state = .opened ∧ o.1.bkd.openSup = none)) ∧
    (s.bkd.openSup.isSome = true →
      let o := Bkd.openExpired s
      exec .openSupervisionExpiry s = .next o.conclude ∧
        (s.bkd.reading ≠ .opened →
          o.1 = s.setBkd { s.bkd with openSup := none, hold := false, upstream := true, state := .failed } ∧
            .breakerFail ∈ o.conclude.ptu.latched) ∧
        (s.bkd.reading = .opened →
          o.1 = s.setBkd { s.bkd with openSup := none, hold := false, state := .opened })) ∧
    (s.bkd.contactWatch.isSome = true →
      let o := Bkd.watchExpired s
      exec .contactWatchExpiry s = .next o.conclude ∧ o.1 = s.setBkd o.1.bkd ∧ o.1.bkd.hold = false ∧
        o.1.bkd.tripPulse = some 100 ∧ o.1.bkd.contactWatch = none ∧ .breakerDrop ∈ o.conclude.ptu.latched)

/-- R70, R71: HOLD and CLOSE come on only by a close order in OPEN with no trip latched, the slot held, every hold
condition met and no anti-pump period running; a hand-off that leaves a hold condition unmet is followed by a re-test,
which opens the breaker. -/
def Obligations.CloseOnlyByAnAcceptedOrder : Prop :=
  ∀ (h : Handoff) (s : State),
    ((s.bkd.hold = false ∧ (handle h s).1.bkd.hold = true ∨
        s.bkd.closePulse = none ∧ (handle h s).1.bkd.closePulse ≠ none) →
      h = .bkdClose ∧ s.bkd.state = .opened ∧ s.ptu.latched = [] ∧ s.bkd.slotHeld = true ∧
        s.holdConditions = true ∧ s.bkd.antiPump = none) ∧
    (h = .bkdClose → s.closeRefusal = none →
      (handle h s).1.bkd =
        { s.bkd with hold := true, closePulse := some 100, closeSup := some (s.figs.tClose + 100), state := .closing } ∧
      (handle h s).2.head? = some .csqCloseAccepted) ∧
    (h = .bkdRetest → s.bkd.hold = true → s.holdConditions = false →
      s.bkd.state = .closing ∨ s.bkd.state = .closed →
      (handle h s).1.bkd.hold = false ∧ (handle h s).1.bkd.tripPulse = some 100)

/-! ### Protection unit -/

/-- R94, R95, R96: an onset latches its source, the first of an empty set becomes the first-out with its time and age 0;
then come the re-test, the trip order, the notice and the attention unit. A source latched already has no onset. -/
def Obligations.TripOnsetIsRecordedOnce : Prop :=
  ∀ (x : Source) (s : State),
    (x ∉ s.ptu.latched →
      let o := handle (.ptuOnset x) s
      o.1.ptu.latched = s.ptu.latched ++ [x] ∧ o.2 = [.bkdRetest, .bkdTrip, .csqNotice x, .atuSources] ∧
      (s.ptu.latched = [] → o.1.ptu.firstOut = some x ∧ o.1.ptu.firstOutTime = some s.csq.runTime ∧
        o.1.ptu.age = 0 ∧ o.1.ptu.earlierRun = false) ∧
      (s.ptu.latched ≠ [] → o.1.ptu.firstOut = s.ptu.firstOut ∧ o.1.ptu.firstOutTime = s.ptu.firstOutTime ∧
        o.1.ptu.age = s.ptu.age)) ∧
    (x ∈ s.ptu.latched → handle (.ptuOnset x) s = (s, []))

/-- R100 to R105: five sets in a row over the residual threshold give EARTH-FAULT, which goes at the first set at or below
it; two over the phase threshold OVERCURRENT; a hundred below the reverse-power limit REVERSE-POWER, in the states that
count; the overload accumulator takes S less K, stays within 0 and L2, one above the new L2 is capped there whatever S
is, and OVERLOAD comes exactly at L2, with the levels of the K of the set. -/
def Obligations.DetectorsCountTheirRuns : Prop :=
  ∀ (r : ReadingSet) (p : Ptu) (n : Nat),
    (n < r.residual → p.earthRun = 0 → p.earthFault = false →
      ∀ k, 1 ≤ k →
        let q := (fun p : Ptu => (p.detectEarthFault r n).1)^[k] p
        q.earthRun = min 5 k ∧ q.earthFault = decide (5 ≤ k) ∧
        ((q.detectEarthFault r n).2 = [.ptuOnset .earthFault] ↔ k = 4)) ∧
    (r.residual ≤ n → p.detectEarthFault r n = ({ p with earthRun := 0, earthFault := false }, [])) ∧
    (let o := p.detectOvercurrent r n;
      (n < r.current.l1 ∨ n < r.current.l2 ∨ n < r.current.l3 →
        o.1 = { p with overcurrentRun := min 2 (p.overcurrentRun + 1) } ∧
        o.2 = if p.overcurrentRun = 1 then [.ptuOnset .overcurrent] else []) ∧
      (r.current.l1 ≤ n → r.current.l2 ≤ n → r.current.l3 ≤ n → o.1 = { p with overcurrentRun := 0 } ∧ o.2 = [])) ∧
    Source.overcurrent.fatal = true ∧ Source.overcurrent.level = false ∧
    (∀ (b : BreakerState) (state : SeqState),
      let counts := b ≠ .opened ∧ state ≠ .parallel ∧ state ≠ .unloading
      (counts → r.p < -(n : Int) → p.reverseRun = 0 → ∀ k,
        let q := (fun p : Ptu => (p.detectReverse r n b state).1)^[k] p
        q = { p with reverseRun := min 100 k } ∧
        (q.detectReverse r n b state).2 = if k = 99 then [.ptuOnset .reversePower] else []) ∧
      (¬counts ∨ -(n : Int) ≤ r.p → p.detectReverse r n b state = ({ p with reverseRun := 0 }, []))) ∧
    (∀ (k : Nat) (b : BreakerState), 0 < k → b ≠ .opened →
      let o := p.detectOverload r k b
      (250 * k < p.acc → o.1.acc = 250 * k) ∧
      (p.acc ≤ 250 * k → (o.1.acc : Int) = max 0 (min (p.acc + r.s - k) (250 * k))) ∧ o.1.levelK = k ∧
      (.ptuOnset .overload ∈ o.2 ↔ o.1.acc = 250 * k) ∧
      (.slcOrder .over ∈ o.2 ↔ 5 * k ≤ o.1.acc ∧ p.overArmed = true) ∧ o.1.notice = decide (5 * k ≤ o.1.acc))

/-- R62: a notice of a source that is not fatal sets the mask out of START, ends a TRANSFER-IN as a retryable abort, a
connection with a FALLBACK record, a HANDBACK ABORTED and an UNLOADING FORCED, each with the source as cause, and enters
ISOLATING with the trip-isolation indication, or goes straight out where the breaker never left OPEN. R63: a notice of a
fatal source ends what is in progress with the source as cause and enters LOCKOUT with the mask set. FALLBACK goes to the
ship where a connection ends. The start time of a FALLBACK record with no shore entry time is the model's choice (log
entry 35). -/
def Obligations.TripNoticeEndsTheConnection : Prop :=
  ∀ (x : Source) (s : State),
    let o := handle (.csqNotice x) s
    let logged (kind : RecordKind) (ending : Ending) (mode : Mode) (start : Nat) : Prop :=
      o.1.csq.log = appendRecord s.csq.log (s.recordNow kind ending (.trip x) mode start)
    let isolated := o.1.csq.state = .isolating ∧ o.1.csq.tripIso = true ∧ .csqEntered .isolating ∈ o.2
    let connected := s.csq.state = .shore ∨ s.csq.state = .releaseWait
    o.1 = s.setCsq o.1.csq ∧ (s.csq.state = .start → o = (s, [])) ∧ (s.csq.state ≠ .start → o.1.csq.mask = true) ∧
    (x.fatal = false →
      (s.csq.state ∈ [SeqState.vacant, .hooked, .isolating, .lockout] → o.1.csq = { s.csq with mask := true }) ∧
      (∀ p, s.csq.proc = some p → p.kind = .transferIn → s.csq.state.transferring = true ∨ s.csq.state = .parallel →
        logged .transferIn .aborted p.mode p.start ∧ o.1.csq.proc = none ∧ (∀ h ∈ withdrawals, h ∈ o.2) ∧
        (o.1.csq.state ≠ .vacant → o.1.csq.retry = min 3 (s.csq.retry + 1)) ∧
        (s.csq.state ≠ .parallel → .slcOrder (.refused (.trip x)) ∈ o.2) ∧
        (isolated ∨
          (o.1.csq.state = .hooked ∨ o.1.csq.state = .vacant) ∧ s.csq.state ≠ .parallel ∧ s.bkd.state = .opened ∧
            s.esd.state = .closed ∧ s.releaseAtOnce = true)) ∧
      (connected →
        logged .fallback .forced .none (s.csq.shoreEntry.getD 0) ∧ o.1.csq.proc = none ∧ isolated ∧
          .slcOrder .fallback ∈ o.2) ∧
      (∀ p, s.csq.proc = some p → p.kind = .handback → s.csq.state = .handback →
        logged .handback .aborted p.mode p.start ∧ o.1.csq.proc = none ∧ o.1.csq.retry = s.csq.retry ∧ isolated ∧
          .slcOrder .fallback ∈ o.2 ∧ .slcOrder (.refused (.trip x)) ∈ o.2) ∧
      (∀ p, s.csq.proc = some p → p.kind = .handback → s.csq.state = .unloading →
        logged .handback .forced p.mode p.start ∧ o.1.csq.proc = none ∧ isolated ∧ .slcOrder .fallback ∈ o.2)) ∧
    (x.fatal = true →
      (s.csq.state = .lockout → o.1.csq = { s.csq with mask := true }) ∧
      (s.csq.state ≠ .start → s.csq.state ≠ .lockout →
        o.1.csq.state = .lockout ∧ o.1.csq.proc = none ∧ .csqEntered .lockout ∈ o.2) ∧
      (s.csq.proc = none → s.csq.state ∈ [SeqState.vacant, .hooked, .isolating] → o.1.csq.log = s.csq.log) ∧
      (∀ p, s.csq.proc = some p → p.kind = .transferIn → s.csq.state.transferring = true ∨ s.csq.state = .parallel →
        logged .transferIn .failed p.mode p.start) ∧
      (connected → logged .fallback .failed .none (s.csq.shoreEntry.getD 0)) ∧
      (∀ p, s.csq.proc = some p → p.kind = .handback →
        (s.csq.state = .handback → logged .handback .failed p.mode p.start) ∧
        (s.csq.state = .unloading ∨ s.csq.state = .isolating → logged .handback .forced p.mode p.start)) ∧
      (.slcOrder .fallback ∈ o.2 ↔ connected ∨ s.csq.state = .handback ∨ s.csq.state = .unloading))

/-! ### Ship link -/

/-- R41, R44 to R48, R59, R122: with the link UP, a TRANSFER_IN in HOOKED with the mask clear, fewer than three retries,
no trip latched and a mode available opens a TRANSFER-IN; a refusal names the first condition that fails. A READY awaited
moves on to awaiting permission, for 60 s or 5 s; a READY in a HANDBACK of OPEN mode completes it; an UNLOADED in PARALLEL
completes the TRANSFER-IN. Where R59 does not have the message taken, it is absorbed in the states its table names, and
refused with SEQUENCE in every other. -/
def Obligations.ShipTransferRequestsAreTaken : Prop :=
  ∀ s : State, s.slc.link = .up →
    (∀ m : Byte,
      let mode := s.chooseMode (Mode.ofByte m)
      let o := Slc.message (Slc.request (Csq.transferIn (Mode.ofByte m))) s
      exec (.transferIn m) s = .next o.conclude ∧ o.1.slc.silence = some 5000 ∧
      o.1 = (s.setSlc o.1.slc).setCsq o.1.csq ∧
      (s.csq.state = .hooked → s.csq.mask = false → s.csq.retry < 3 → s.ptu.latched = [] → mode ≠ .none →
        o.1.csq.state = .proving ∧ o.1.csq.mode = mode ∧ o.1.csq.phase = some 600000 ∧ o.1.csq.retry = s.csq.retry ∧
        o.1.csq.proc = some ⟨.transferIn, mode, s.csq.runTime, none⟩ ∧ .csqEntered .proving ∈ o.2) ∧
      (s.csq.state = .hooked →
        (s.csq.mask = true → o.2 = [.slcOrder (.refused .masked)]) ∧
        (s.csq.mask = false → 3 ≤ s.csq.retry → o.2 = [.slcOrder (.refused .retries)]) ∧
        (s.csq.mask = false → s.csq.retry < 3 → s.ptu.latched ≠ [] → o.2 = [.slcOrder (.refused .tripLatched)]) ∧
        (s.csq.mask = false → s.csq.retry < 3 → s.ptu.latched = [] → mode = .none →
          o.2 = [.slcOrder (.refused .mode)])) ∧
      (s.csq.state.transferring = true ∨ s.csq.state = .parallel ∨ s.csq.state = .shore →
        o.1.csq = s.csq ∧ o.2 = []) ∧
      (s.csq.state ∈ [SeqState.start, .vacant, .releaseWait, .handback, .unloading, .isolating, .lockout] →
        o.1.csq = s.csq ∧ o.2 = [.slcOrder (.refused .sequence)])) ∧
    (let o := Slc.message (Slc.request Csq.readyMsg) s;
      exec .ready s = .next o.conclude ∧ o.1.slc.silence = some 5000 ∧ o.1 = (s.setSlc o.1.slc).setCsq o.1.csq ∧
      (s.csq.sub = .awaitingReady → s.csq.state = .syncing →
        o.1.csq = { s.csq with sub := .awaitingPermission, phase := some 60000 } ∧ o.2 = [.sycReady]) ∧
      (s.csq.sub = .awaitingReady → s.csq.state = .deadwait →
        o.1.csq = { s.csq with sub := .awaitingPermission, phase := some 5000 } ∧ o.2 = [.sycReady]) ∧
      (s.csq.sub ≠ .awaitingReady → s.csq.state = .syncing ∨ s.csq.state = .deadwait →
        o.1.csq = s.csq ∧ o.2 = []) ∧
      (∀ p, s.csq.state = .handback → s.csq.proc = some p → p.mode = .opened →
        o.1.csq.state = .isolating ∧ .bkdOpen ∈ o.2 ∧
        o.1.csq.proc = some { p with fixed := some (.completed, .none) }) ∧
      (s.csq.state ∉ [SeqState.syncing, .deadwait, .handback] ∨
          s.csq.state = .handback ∧ s.csq.proc.map (·.mode) ≠ some .opened →
        o.1.csq = s.csq ∧ o.2 = [.slcOrder (.refused .sequence)])) ∧
    (let o := Slc.message (Slc.request Csq.unloadedMsg) s;
      exec .unloaded s = .next o.conclude ∧ o.1.slc.silence = some 5000 ∧ o.1 = (s.setSlc o.1.slc).setCsq o.1.csq ∧
      (∀ p, s.csq.state = .parallel → s.csq.proc = some p → p.kind = .transferIn →
        o.1.csq.state = .shore ∧ o.1.csq.proc = none ∧ o.1.csq.slotTimer = some 10000 ∧
        o.1.csq.shoreEntry = some s.csq.runTime ∧ o.1.csq.phase = none ∧
        o.1.csq.log = appendRecord s.csq.log (s.recordNow .transferIn .completed .none p.mode p.start)) ∧
      (s.csq.state ≠ .parallel → o.1.csq = s.csq ∧ o.2 = [.slcOrder (.refused .sequence)]))

/-- R52 to R54, R59, R61, R122: with the link UP, a HANDBACK in SHORE or RELEASE-WAIT with its mode available enters
HANDBACK for 180 s; a TAKEN in a closed HANDBACK enters UNLOADING for the parallel limit; an ABANDON supersedes a
TRANSFER-IN, or returns a HANDBACK to SHORE. Where R59 does not have the message taken, it is absorbed in the states its
table names, and refused with SEQUENCE in every other. -/
def Obligations.ShipHandbackRequestsAreTaken : Prop :=
  ∀ s : State, s.slc.link = .up →
    (∀ m : Byte,
      let mode := Mode.ofByte m
      let o := Slc.message (Slc.request (Csq.handbackMsg mode)) s
      exec (.handback m) s = .next o.conclude ∧ o.1.slc.silence = some 5000 ∧
      o.1 = (s.setSlc o.1.slc).setCsq o.1.csq ∧
      (s.csq.state = .shore ∨ s.csq.state = .releaseWait → s.modeAvailable mode = true →
        o.1.csq.state = .handback ∧ o.1.csq.phase = some 180000 ∧ o.1.csq.releaseDelay = s.csq.releaseDelay ∧
        o.1.csq.proc = some ⟨.handback, mode, (s.csq.proc.map (·.start)).getD s.csq.runTime, none⟩ ∧
        (.slcOrder (.proceed .opened s.figs.parallelLimit) ∈ o.2 ↔ mode = .opened)) ∧
      (s.csq.state = .shore ∨ s.csq.state = .releaseWait → s.modeAvailable mode = false →
        o.1.csq = s.csq ∧ o.2 = [.slcOrder (.refused .mode)]) ∧
      (s.csq.state = .handback ∨ s.csq.state = .unloading → o.1.csq = s.csq ∧ o.2 = []) ∧
      (s.csq.state ∉ [SeqState.shore, .releaseWait, .handback, .unloading] →
        o.1.csq = s.csq ∧ o.2 = [.slcOrder (.refused .sequence)])) ∧
    (s.modeAvailable .closed = (s.figs.allowClosed && s.slc.offersClosed)) ∧
    (s.modeAvailable .opened = (s.figs.allowOpen && s.slc.offersOpen)) ∧ (s.modeAvailable .none = false) ∧
    (let o := Slc.message (Slc.request Csq.takenMsg) s;
      exec .taken s = .next o.conclude ∧ o.1.slc.silence = some 5000 ∧ o.1 = (s.setSlc o.1.slc).setCsq o.1.csq ∧
      (∀ p, s.csq.state = .handback → s.csq.proc = some p → p.mode = .closed →
        o.1.csq.state = .unloading ∧ o.1.csq.phase = some (s.figs.parallelLimit * 1000) ∧ o.1.csq.unloadRun = 0 ∧
        o.1.csq.proc = some p) ∧
      (s.csq.state = .unloading → o.1.csq = s.csq ∧ o.2 = []) ∧
      (s.csq.state ∉ [SeqState.handback, .unloading] ∨
          s.csq.state = .handback ∧ s.csq.proc.map (·.mode) ≠ some .closed →
        o.1.csq = s.csq ∧ o.2 = [.slcOrder (.refused .sequence)])) ∧
    (let o := Slc.message (Slc.request Csq.abandonMsg) s;
      exec .abandon s = .next o.conclude ∧ o.1.slc.silence = some 5000 ∧ o.1 = (s.setSlc o.1.slc).setCsq o.1.csq ∧
      (∀ p, s.csq.state.transferring = true ∨ s.csq.state = .parallel → s.csq.proc = some p → p.kind = .transferIn →
        o.1.csq.proc = none ∧ (∀ h ∈ withdrawals, h ∈ o.2) ∧
        o.1.csq.log = appendRecord s.csq.log (s.recordNow .transferIn .superseded .shipAbandon p.mode p.start)) ∧
      (∀ p, s.csq.state = .handback → s.csq.proc = some p → p.kind = .handback →
        o.1.csq.state = .shore ∧ o.1.csq.proc = none ∧
        o.1.csq.log = appendRecord s.csq.log (s.recordNow .handback .superseded .shipAbandon p.mode p.start)) ∧
      (s.csq.state.transferring = false → s.csq.state ≠ .parallel → s.csq.state ≠ .handback →
        o.1.csq = s.csq ∧ o.2 = [.slcOrder (.refused .sequence)]))

/-- R116 to R119, R123, R125: a compatible SHIP-HELLO brings the link UP with the ship's figures, the silence and ceiling
timers at 5 s and a CEILING of the present content, which waits in the queue or is being sent where the queue has room or
a CEILING waits (R114, log entry 34); an incompatible one brings it to INCOMPATIBLE with its cause, as a link loss from
UP. -/
def Obligations.ShipHelloSetsTheLink : Prop :=
  ∀ (d : List Byte) (s : State), d.length = 24 → s.slc.link ≠ .down →
    let o := Slc.message (fun s => if d.length = 24 then Slc.shipHello d s else (s, [])) s
    let frequencyOk := fieldNat d 2 4 = s.figs.fn
    let voltageOk := 20 * ((fieldNat d 6 4 : Int) - s.figs.vn).natAbs ≤ s.figs.vn
    exec (.shipHello d) s = .next o.conclude ∧ o.1 = s.setSlc o.1.slc ∧
    (frequencyOk → voltageOk →
      o.1.slc.link = .up ∧ o.1.slc.shipNumber = some (fieldNat d 0 2) ∧
      o.1.slc.h = min 20000 (fieldNat d 10 4) ∧ o.1.slc.c = min 20000 (fieldNat d 14 4) ∧
      o.1.slc.offersClosed = (fieldNat d 18 1 == 1 || fieldNat d 18 1 == 3) ∧
      o.1.slc.offersOpen = (fieldNat d 18 1 == 2 || fieldNat d 18 1 == 3) ∧ o.1.slc.incompat = .none ∧
      o.1.slc.silence = some 5000 ∧ o.1.slc.ceiling = some 5000 ∧ o.1.slc.lastCeiling = some s.ceilingContent ∧
      (s.slc.queue.length < 8 ∨ s.slc.queue.any ShipMsg.isCeiling = true →
        let m := ShipMsg.ceiling s.ceilingContent.1 s.ceilingContent.2
        m ∈ o.1.slc.queue ∨ o.1.slc.sending = some m) ∧
      (s.slc.link ≠ .up → o.1.slc.hello = none ∧ o.1.slc.linkHold = none ∧ o.1.slc.holdExpired = false) ∧
      .shcFloor ∈ o.2 ∧ .csqLinkLoss ∉ o.2) ∧
    (¬frequencyOk → o.1.slc.link = .incompatible ∧ o.1.slc.incompat = .frequency) ∧
    (frequencyOk → ¬voltageOk → o.1.slc.link = .incompatible ∧ o.1.slc.incompat = .voltage) ∧
    (¬(frequencyOk ∧ voltageOk) → s.slc.link = .up →
      o.1.slc.silence = none ∧ o.1.slc.linkHold = some 60000 ∧ o.1.slc.hello = some 10000 ∧ .csqLinkLoss ∈ o.2)

/-- R117, R120, R122: a SHIP-STATUS in UP gives its figures and a share pass; outside UP it and every request of the ship
are discarded. R112: a discarded frame and an exceeded gap leave the receiver hunting; that a command
that stands for a whole message does so too is the model's choice (log entry 26). -/
def Obligations.ShipStatusAndDiscards : Prop :=
  ∀ s : State,
    (∀ d : List Byte, d.length = 12 → s.slc.link = .up →
      let o := Slc.message (fun s => if d.length = 12 then Slc.shipStatus d s else (s, [])) s
      let energy := fieldNat d 1 1 % 2 = 1
      let departure := fieldNat d 1 1 / 2 % 2 = 1
      exec (.shipStatus d) s = .next o.conclude ∧ o.1 = s.setSlc o.1.slc ∧ o.2 = [.shcPass] ∧
      o.1.slc.silence = some 5000 ∧ o.1.slc.shipBus = ShipBus.ofCode (fieldNat d 0 1) ∧
      (energy → o.1.slc.e = some (min 20000 (fieldNat d 2 4))) ∧ (¬energy → o.1.slc.e = none) ∧
      (departure → o.1.slc.t0 = some (min 1439 (fieldNat d 6 2)) ∧ o.1.slc.t0Receipt = some s.csq.runTime) ∧
      (¬departure → o.1.slc.t0 = none ∧ o.1.slc.t0Receipt = none) ∧
      o.1.slc.chargerDraw = min 20000 (fieldNat d 8 4)) ∧
    (s.settled = true →
      let hunting := s.setSlc { s.slc with rx := .hunting, gap := none }
      exec .shipFrameDiscard s = .next hunting.refresh ∧
      (s.slc.gap.isSome = true → exec .shipByteGapTimeout s = .next hunting.refresh) ∧
      (∀ c : Instr, isRequest c = true ∨ (∃ d, c = .shipStatus d) →
        (s.slc.link ≠ .up → s.slc.link ≠ .down → exec c s = .next hunting.refresh) ∧
        (s.slc.link = .down → exec c s = .next s.refresh)))

/-- Sections 7.1 and 12.4, R112, R113: the bytes of a frame, received one after the other without an error by a hunting
receiver, do what the message they spell does. That the command of a message leaves the receiver hunting is the model's
choice (log entry 26). -/
def Obligations.BytesSpellTheMessage : Prop :=
  ∀ (c : Instr) (kind : Nat) (payload : List Byte) (s : State),
    shipFrameOf c = some (kind, payload) → c.wellFormed = true → s.running = true → s.settled = true →
    s.slc.link ≠ .down → s.slc.rx = .hunting → s.out = s.lines →
    receiveBytes (lineBytes kind payload) s = exec c s

/-- R112 to R114, R117, R123 to R125: a start byte starts a frame; a byte with a framing error, a length above 24 and a
complete frame that fails a check discard it; any other byte joins it. The end of a transmission begins the oldest waiting
message; the silence timer's expiry is LOST, a link loss; the hello and ceiling timers order their message again, which
is sent at once on an idle line, and otherwise waits: behind the others, or in the place of the one of its kind that waits.
The link hold's expiry is hold-expired. That the 10 ms of a gap run from the start byte too, that a start byte with a
framing error starts no frame (log entry 28), and that neither of the two joins 8 waiting messages of other kinds (log
entry 34) are the model's choices. -/
def Obligations.ShipLinkTimersRun : Prop :=
  ∀ s : State,
    (s.slc.silence.isSome = true → s.slc.link = .up →
      let o := Slc.silenceExpired s
      exec .silenceTimerExpiry s = .next o.conclude ∧ o.1 = s.setSlc o.1.slc ∧ o.1.slc.link = .lost ∧
        o.1.slc.silence = none ∧ o.1.slc.ceiling = none ∧ o.1.slc.linkHold = some 60000 ∧
        o.1.slc.hello = some 10000 ∧ o.2 = [.csqLinkLoss, .atuSources]) ∧
    (s.settled = true →
      (s.slc.hello.isSome = true → s.slc.link ≠ .up → s.slc.link ≠ .down → s.slc.queue = [] → s.slc.sending = none →
        exec .helloTimerExpiry s =
          .next (s.setSlc { s.slc with hello := some 10000, sending := some s.berthHello }).refresh) ∧
      (s.slc.hello.isSome = true → s.slc.link ≠ .up → s.slc.link ≠ .down → s.slc.sending.isSome = true →
        exec .helloTimerExpiry s =
          .next (s.setSlc
            { s.slc with
              hello := some 10000
              queue :=
                if s.slc.queue.any ShipMsg.isHello = true ∨ 8 ≤ s.slc.queue.length then s.slc.queue
                else s.slc.queue ++ [s.berthHello] }).refresh) ∧
      (s.slc.ceiling.isSome = true → s.slc.link = .up → s.slc.queue = [] → s.slc.sending = none →
        exec .ceilingTimerExpiry s =
          .next (s.setSlc
            { s.slc with
              ceiling := some 5000
              sending := some (.ceiling s.ceilingContent.1 s.ceilingContent.2) }).refresh) ∧
      (s.slc.ceiling.isSome = true → s.slc.link = .up → s.slc.sending.isSome = true →
        let m := ShipMsg.ceiling s.ceilingContent.1 s.ceilingContent.2
        exec .ceilingTimerExpiry s =
          .next (s.setSlc
            { s.slc with
              ceiling := some 5000
              queue :=
                if s.slc.queue.any ShipMsg.isCeiling = true then
                  s.slc.queue.map fun x => if x.isCeiling then m else x
                else if 8 ≤ s.slc.queue.length then s.slc.queue
                else s.slc.queue ++ [m] }).refresh) ∧
      (s.slc.linkHold.isSome = true →
        exec .linkHoldExpiry s =
          .next (s.setSlc { s.slc with linkHold := none, holdExpired := true }).refresh) ∧
      (s.slc.sending.isSome = true →
        exec .shipTransmitEnd s =
          .next (s.setSlc
            { s.slc with sending := s.slc.queue.head?, queue := s.slc.queue.drop 1 }).refresh) ∧
      (s.slc.link ≠ .down → s.slc.rx = .hunting →
        exec (.shipLinkByteReceived 0x7E#8 false) s =
          .next (s.setSlc { s.slc with rx := .inFrame [], gap := some 10 }).refresh ∧
        ∀ (b : Byte) (framingError : Bool), b ≠ 0x7E#8 ∨ framingError = true →
          exec (.shipLinkByteReceived b framingError) s = .next s.refresh) ∧
      (s.slc.link = .down → ∀ (b : Byte) (framingError : Bool),
        exec (.shipLinkByteReceived b framingError) s = .next s.refresh) ∧
      (∀ (bs : List Byte) (b : Byte), s.slc.link ≠ .down → s.slc.rx = .inFrame bs →
        let hunting := s.setSlc { s.slc with rx := .hunting, gap := none }
        let frame := bs ++ [b]
        let len := fieldNat frame 1 1
        exec (.shipLinkByteReceived b true) s = .next hunting.refresh ∧
        (frame.length = 2 → 24 < b.toNat → exec (.shipLinkByteReceived b false) s = .next hunting.refresh) ∧
        (¬(frame.length = 2 ∧ 24 < b.toNat) → frame.length < 2 ∨ frame.length < len + 4 →
          exec (.shipLinkByteReceived b false) s =
            .next (s.setSlc { s.slc with rx := .inFrame frame, gap := some 10 }).refresh) ∧
        (2 ≤ frame.length → len + 4 ≤ frame.length →
          shipKindLength (fieldNat frame 0 1) ≠ some len ∨
            frame.drop (2 + len) ≠ crcBytes (frame.take (2 + len)) →
          exec (.shipLinkByteReceived b false) s = .next hunting.refresh)))

/-! ### Terminal bus -/

/-- R130, R134, R158: a STATUS of a peer is filed in its entry and in no other, makes it LIVE with age 0, and runs a
share pass exactly when K, the figure of the floor, Cd or Uq differ or the entry is new. That a STATUS in which
FLOOR-PENDING alone differs runs no pass is the model's choice (log entry 57). -/
def Obligations.StatusIsFiled : Prop :=
  ∀ (ident : BitVec 11) (b : Nat) (d : List Byte) (s : State), s.tbc.can.onBus = true → 1 ≤ b → b ≤ 16 → b ≠ s.own →
    ident.toNat = 256 + b → d.length = 8 →
    let o := Tbc.frame ident d s
    exec (.status ident d) s = .next o.conclude ∧ o.1 = (s.setTbc o.1.tbc).setClu o.1.clu ∧
    (∃ p, findPeer b o.1.tbc.peers = some p ∧ p.live = true ∧ p.age = 0 ∧ p.code = some (fieldNat d 0 1) ∧
      (p.startFlag = true ↔ fieldNat d 1 1 % 2 = 1) ∧ (p.floorPending = true ↔ fieldNat d 1 1 / 2 % 2 = 1) ∧
      (p.stepFlag = true ↔ fieldNat d 1 1 / 4 % 2 = 1) ∧ p.k = fieldNat d 2 5 / 2 ^ 28 * 10 ∧
      p.floor = fieldNat d 2 5 / 2 ^ 16 % 4096 * 10 ∧ p.cd = fieldNat d 2 5 / 2 ^ 4 % 4096 * 10 ∧
      p.uq = fieldNat d 7 1 ∧
      (p.stepFlag = false → p.stepHold = none) ∧
      (∀ q, findPeer b s.tbc.peers = some q → p.bid = q.bid ∧
        (.shcPass ∈ o.2 ↔ p.k ≠ q.k ∨ p.floor ≠ q.floor ∨ p.cd ≠ q.cd ∨ p.uq ≠ q.uq))) ∧
    (findPeer b s.tbc.peers = none → .shcPass ∈ o.2) ∧
    (∀ n, n ≠ b → findPeer n o.1.tbc.peers = findPeer n s.tbc.peers) ∧
    o.1.clu.claim = s.clu.claim

/-- Section 12.3, R133, R134: what a berth packs into a STATUS is what a peer files, for every claim, floor and charge
demand that is a multiple of 10 below 40960 and every urgency code of a byte. -/
def Obligations.StatusFrameRoundTrip : Prop :=
  ∀ (s : State) (p : Peer), s.clu.claim % 10 = 0 → s.clu.claim < 40960 → s.clu.floorField % 10 = 0 →
    s.clu.floorField < 40960 → s.shc.cd % 10 = 0 → s.shc.cd < 40960 → s.shc.uq < 256 →
    s.statusData.length = 8 ∧
    p.file s.statusData =
      { p with
        live := true, code := some s.csq.state.code, startFlag := s.csq.state == .start
        floorPending := s.clu.floorPending, stepFlag := s.clu.stepHeld, k := s.clu.claim, floor := s.clu.floorField
        cd := s.shc.cd, uq := s.shc.uq, age := 0 }

/-- R135, R150: a BID is recorded as the open bid of its entry, an earlier one ended as at its window end; it is objected
to exactly when the peer test fails, no rule forbids the objection and it proposes more than the present K. R148, R151:
an OBJECT to the own OPEN bid abandons it with the backoff; one to a peer's open bid marks it. That the proposed K of a BID
travels in units of 10 kVA is deduced (log entry 10). -/
def Obligations.BidsAndObjectionsAreTaken : Prop :=
  ∀ (ident : BitVec 11) (b : Nat) (d : List Byte) (s : State), s.tbc.can.onBus = true → 1 ≤ b → b ≤ 16 → b ≠ s.own →
    (ident.toNat = 128 + b → d.length = 4 →
      let o := Tbc.frame ident d s
      let k := fieldNat d 1 2 * 10
      exec (.bid ident d) s = .next o.conclude ∧ o.1 = (s.setTbc o.1.tbc).setClu o.1.clu ∧
      (∃ p, findPeer b o.1.tbc.peers = some p ∧
        p.bid = some ⟨fieldNat d 0 1, k, BidKind.ofCode (fieldNat d 3 1), false, 250⟩ ∧
        (∀ q e, findPeer b s.tbc.peers = some q → q.bid = some e →
          p.k = (if e.objected = true then q.k else e.k) ∧ .cluAttempt ∈ o.2) ∧
        (.tbcOrder (.object b (fieldNat d 0 1) .noRoom) ∈ o.2 ↔
          s.avail < k + s.clu.contribution + contributions (erasePeer b s.tbc.peers) ∧
            s.objectsNot = false ∧ p.k < k)) ∧
      (∀ n, n ≠ b → findPeer n o.1.tbc.peers = findPeer n s.tbc.peers)) ∧
    (ident.toNat = 64 + b → d.length = 3 →
      let o := Tbc.frame ident d s
      exec (.object ident d) s = .next o.conclude ∧ o.1 = (s.setTbc o.1.tbc).setClu o.1.clu ∧
      o.1.clu.claim = s.clu.claim ∧
      (fieldNat d 0 1 = s.own →
        (∀ w, s.clu.bid = some w → w.window.isSome = true → w.serial = fieldNat d 1 1 →
          o.1.clu = { s.clu with bid := none, backoff := some (2000 + 100 * s.own) } ∧ o.2 = [.cluAttempt]) ∧
        (s.clu.bid = none → o.1.clu = s.clu ∧ o.2 = [])) ∧
      (∀ p e, fieldNat d 0 1 ≠ s.own → findPeer (fieldNat d 0 1) s.tbc.peers = some p → p.bid = some e →
        e.serial = fieldNat d 1 1 →
        findPeer (fieldNat d 0 1) o.1.tbc.peers = some { p with bid := some { e with objected := true } }))

/-- R157: a STEP-BID is recorded as its berth's open step bid for 250 ms, and objected to with STEP-HELD or STEP-EARLIER
by the order of the rule. R158: a STEP-FREE ends the recorded step hold of its berth, a waiting step request trying
again. -/
def Obligations.StepBidsAndFreesAreTaken : Prop :=
  ∀ (ident : BitVec 11) (b : Nat) (d : List Byte) (s : State), s.tbc.can.onBus = true → 1 ≤ b → b ≤ 16 → b ≠ s.own →
    (ident.toNat = 160 + b → d.length = 1 →
      let o := Tbc.frame ident d s
      let held := s.clu.stepHeld = true ∨ s.otherHolds b = true
      exec (.stepBid ident d) s = .next o.conclude ∧ o.1 = (s.setTbc o.1.tbc).setClu o.1.clu ∧
      o.1.tbc.peers = s.tbc.peers ∧ o.1.stepBidOf b = some ⟨fieldNat d 0 1, 250, false⟩ ∧
      (.tbcOrder (.object b (fieldNat d 0 1) .stepHeld) ∈ o.2 ↔ s.objectsNot = false ∧ held) ∧
      (.tbcOrder (.object b (fieldNat d 0 1) .stepEarlier) ∈ o.2 ↔
        s.objectsNot = false ∧ ¬held ∧
          (s.clu.stepBidOpen = true ∨ ∃ r ∈ s.clu.stepList, r.berth ≠ b ∧ r.bid.isSome = true))) ∧
    (ident.toNat = 192 + b → d.length = 0 → StepsOrdered s.own s.clu.stepList →
      let o := Tbc.frame ident d s
      exec (.stepFree ident d) s = .next o.conclude ∧ o.1 = (s.setTbc o.1.tbc).setClu o.1.clu ∧
      o.1.holdRecorded b = false ∧
      (s.holdRecorded b = true → s.clu.stepReq = true → o.2 = [.cluAttempt]) ∧
      (∀ n, n ≠ b → o.1.holdRecorded n = s.holdRecorded n))

/-- R37, R140, R178, R179, R183: a QUERY that names the own berth is answered with the segments of the item that its byte 1
names, where they find room in the queue, and disregarded where they do not; a result that is read leaves the log. That a
frame received ends the attempt of an own frame, and that the next one begins with the command's end, are the model's
choices (log entries 13 and 14). -/
def Obligations.QueriesAreAnswered : Prop :=
  ∀ (ident : BitVec 11) (d : List Byte) (s : State), s.tbc.can.onBus = true → ident.toNat = 384 → 1 ≤ s.own →
    d.length = 3 → fieldNat d 0 1 = s.own → s.settled = true →
    let h := s.heard
    let n := fieldNat d 2 1
    let fits (item : Nat) (i : List Byte) : Prop := s.tbc.queue.length + (segments item i).length ≤ 24
    let reply (item : Nat) (i : List Byte) : State := h.setTbc (h.tbc.reply (segments item i))
    (fieldNat d 1 1 = 1 →
      (fits 1 (h.summary n) → exec (.querySummary ident d) s = .next (reply 1 (h.summary n)).begun.refresh) ∧
      (¬fits 1 (h.summary n) → exec (.querySummary ident d) s = .next h.begun.refresh)) ∧
    (fieldNat d 1 1 = 2 →
      (fits 2 h.tripItem → exec (.queryTrip ⟨ident, d⟩) s = .next (reply 2 h.tripItem).begun.refresh) ∧
      (¬fits 2 h.tripItem → exec (.queryTrip ⟨ident, d⟩) s = .next h.begun.refresh)) ∧
    (fieldNat d 1 1 = 3 →
      (fits 3 h.resultItem →
        exec (.queryResult ⟨ident, d⟩) s =
          .next (Out.conclude ((reply 3 h.resultItem).setCsq { s.csq with log := s.csq.log.drop 1 }, [.atuSources]))) ∧
      (¬fits 3 h.resultItem → exec (.queryResult ⟨ident, d⟩) s = .next h.begun.refresh)) ∧
    (fieldNat d 1 1 = 4 →
      (fits 4 (h.peerItem n) → exec (.queryPeer ident d) s = .next (reply 4 (h.peerItem n)).begun.refresh) ∧
      (¬fits 4 (h.peerItem n) → exec (.queryPeer ident d) s = .next h.begun.refresh))

/-- R184: the segments of an item carry its bytes in order, 6 in each but the last, which alone is marked; no item is
longer than 24 bytes, and the segments find their places in the queue. -/
def Obligations.SegmentsCarryTheItem : Prop :=
  (∀ (item : Nat) (d : List Byte), d.length ≤ 24 →
    (segments item d).flatMap (·.drop 2) = d ∧ (segments item d).length = max 1 ((d.length + 5) / 6) ∧
    ∀ i : Nat, ∀ g, (segments item d)[i]? = some g →
      g.length ≤ 8 ∧ fieldNat g 0 1 = item % 256 ∧
      fieldNat g 1 1 = (if i + 1 = (segments item d).length then i + 128 else i) ∧
      (i + 1 < (segments item d).length → g.length = 8)) ∧
  (∀ (s : State) (page now : Nat) (p : Peer),
    (s.summary page).length ≤ 24 ∧ s.tripItem.length = 12 ∧ s.resultItem.length ≤ 19 ∧ (p.item now).length = 17) ∧
  (∀ (segs : List (List Byte)) (t : Tbc), t.can.sends = true → t.queue.length + segs.length ≤ 24 →
    (t.reply segs).queue = t.queue ++ segs.map fun d => ⟨.reply d, some 1000⟩)

/-- R129: the frame offered for arbitration has the lowest kind code in the queue and was ordered before every other of
that code; its completion takes it alone out of the queue. R132: an attempt carries the content of the moment, and a change
presented during the attempt of a STATUS orders a new one after it. R128, R129, R139: an own frame that completes leaves the
queue, is seen on the wire with its identifier and the content of its attempt, lowers the transmit error count and, as a
BID, STEP-BID or OBJECT, goes to the claim unit; it clears BUS-LOST and orders a STATUS. R147: the completion of the own
QUEUED bid opens its window of 250 ms. That a completion is of the frame in its attempt, of a withdrawn frame too, that one
with another identifier has no effect, and what an attempt carries are the model's choices (log entries 14, 15 and 16);
that the queue timers restart at every completion is deduced (log entry 59). -/
def Obligations.OwnFrameCompletes : Prop :=
  (∀ q : List TxFrame,
    (offeredFrame q = none ↔ q = []) ∧
    (∀ f, offeredFrame q = some f → ∃ before after, q = before ++ f :: after ∧
      (∀ g ∈ before, f.body.kindCode < g.body.kindCode) ∧ (∀ g ∈ after, f.body.kindCode ≤ g.body.kindCode) ∧
      dropKind f.body.kind q = before ++ after)) ∧
  (∀ s : State, s.tbc.can.onBus = true →
    (∀ f, s.tbc.attempt = none → offeredFrame s.tbc.queue = some f →
      Tbc.due s = some (s.setTbc { s.tbc with attempt := some ⟨f.body, f.body.data s, false⟩ }, [])) ∧
    (∀ id : BitVec 11, s.settled = true →
      (∀ a, s.tbc.attempt = some a → id.toNat ≠ 32 * a.body.kindCode + s.own) →
      exec (.ownFrameCompletion id) s = .next s.refresh) ∧
    (∀ (a : Attempt) (id : BitVec 11), s.tbc.attempt = some a → id.toNat = 32 * a.body.kindCode + s.own →
      let o := Tbc.complete id.toNat s
      let rest := (dropKind a.body.kind s.tbc.queue).map fun f => { f with timer := some 1000 }
      exec (.ownFrameCompletion id) s = .next o.conclude ∧ o.1 = s.setTbc o.1.tbc ∧
      o.1.tbc.lastSent = some ⟨id.toNat, a.data⟩ ∧ o.1.tbc.txErr = s.tbc.txErr - 1 ∧
      o.1.tbc.busLost = false ∧ o.1.tbc.attempt = none ∧
      (a.again = false → s.tbc.busLost = false → o.1.tbc.queue = rest) ∧
      (a.again = true ∨ s.tbc.busLost = true →
        (o.1.tbc.queue = rest ∨ o.1.tbc.queue = rest ++ [⟨.status, some 1000⟩]) ∧
        (rest.length < 24 → ∃ f ∈ o.1.tbc.queue, f.body = .status)) ∧
      (s.tbc.busLost = false → o.2 = if a.body.bidding then [.cluCompleted a.body] else []) ∧
      (s.tbc.busLost = true → .cluAttempt ∈ o.2 ∧ .atuSources ∈ o.2 ∧
        (a.body.bidding = true → .cluCompleted a.body ∈ o.2)) ∧
      (a.body = .status →
        handle .tbcStatus s = (s.setTbc { s.tbc with attempt := some { a with again := true } }, []))) ∧
    (∀ w, s.clu.bid = some w → w.window = none →
      (handle (.cluCompleted (.stepBid w.serial)) s).1.clu.bid =
        (if w.kind = .step then some { w with window := some 250 } else some w) ∧
      (∀ k kind, (handle (.cluCompleted (.bid w.serial k kind)) s).1.clu.bid =
        (if w.kind = .step then some w else some { w with window := some 250 }))))

/-- R128, R132, R138: the STATUS period runs on and runs a share pass; an expired queue timer is BUS-LOST, which withdraws
the bids and objections from the queue, one in its attempt staying there to its end; each error of the interface raises its
count, which decides its condition; a recovery clears both. That the transmit error count is held at 256, and that an error
of any kind ends the attempt of an own frame, are the model's choices (log entries 12, 14 and 15). -/
def Obligations.BusTimersAndErrors : Prop :=
  ∀ s : State,
    (s.tbc.period.isSome = true →
      let o := Tbc.periodExpired s
      exec .statusPeriodExpiry s = .next o.conclude ∧ o.1 = s.setTbc o.1.tbc ∧ o.1.tbc.period = some 1000 ∧
        o.2 = [.shcPass] ∧
        o.1.tbc.attempt = s.tbc.attempt ∧
        (s.tbc.can.sends = true → s.tbc.queue.length < 24 → ∃ f ∈ o.1.tbc.queue, f.body = .status)) ∧
    (∀ n, leastTimer s.tbc.queue = some n → s.tbc.busLost = false →
      let o := Tbc.queueExpired s
      exec .queueTimerExpiry s = .next o.conclude ∧ o.1 = s.setTbc o.1.tbc ∧ o.1.tbc.busLost = true ∧
        (∀ f ∈ o.1.tbc.queue, f.body.bidding = false) ∧ o.1.tbc.attempt = s.tbc.attempt ∧
        o.2 = [.cluBusLost, .atuSources]) ∧
    (s.settled = true → s.tbc.can.onBus = true → ∀ e : BusError,
      ∃ t, exec (.canError e) s = .next (s.setTbc t).begun.refresh ∧ t.attempt = none ∧ t.queue = s.tbc.queue ∧
        t.peers = s.tbc.peers ∧
        t.txErr = (match e with
          | .receive => s.tbc.txErr
          | .transmit => min 256 (s.tbc.txErr + 8)
          | .unacknowledged => if s.tbc.can = .errorPassive then s.tbc.txErr else min 256 (s.tbc.txErr + 8)) ∧
        t.rxErr = (if e = .receive then min 255 (s.tbc.rxErr + 1) else s.tbc.rxErr) ∧
        (t.can = .busOff ↔ 255 < t.txErr) ∧
        (t.can = .errorPassive ↔ t.txErr ≤ 255 ∧ (128 ≤ t.txErr ∨ 128 ≤ t.rxErr)) ∧
        (t.can = .errorActive ↔ t.txErr < 128 ∧ t.rxErr < 128)) ∧
    (s.settled = true → s.tbc.can = .busOff →
      exec .busOffRecovery s = .next (s.setTbc { s.tbc with can := .errorActive, txErr := 0, rxErr := 0 }).begun.refresh)

/-- R131, R136, R137, R141, R176: an entry goes STALE with its figures kept; FORGET-PEER removes it; a frame with the own
number sets DUPLICATE; CLEAR-ATTENTION clears the statuses it names. By the model's choice a received frame, a disregarded
one too, lowers the receive error count and ends the attempt of an own frame, of one that BUS-LOST withdrew as well, and the
next attempt begins with the command's end; beyond that a disregarded frame changes no item of a block (log entries 13, 14
and 15). That FORGET-PEER is no attempt point of the claim unit is the model's choice too (log entry 45). -/
def Obligations.PeersAndControlFrames : Prop :=
  ∀ s : State, s.settled = true →
    (∀ n p, findPeer n s.tbc.peers = some p → p.live = true →
      ∃ t, exec (.peerStale n) s = .next (s.setTbc { s.tbc with peers := t }).refresh ∧
        findPeer n t = some { p with live := false, age := max 3000 p.age } ∧
        ∀ m, m ≠ n → findPeer m t = findPeer m s.tbc.peers) ∧
    (s.tbc.can.onBus = true →
      exec .frameDisregarded s = .next s.heard.begun.refresh ∧
      (s.tbc.duplicate = true → exec .ownNumberFrame s = .next s.heard.begun.refresh) ∧
      (s.tbc.duplicate = false →
        exec .ownNumberFrame s =
          .next (Out.conclude (s.setTbc { s.tbc.heard with duplicate := true }, [.cluDuplicate, .atuSources]))) ∧
      ∀ (ident : BitVec 11) (d : List Byte), ident.toNat = 480 → 1 ≤ s.own → d.length = 4 → fieldNat d 0 1 = s.own →
        (fieldNat d 1 1 = 2 →
          ∃ t, exec (.forgetPeer ident d) s = .next (s.setTbc { s.tbc.heard with peers := t }).begun.refresh ∧
            findPeer (fieldNat d 3 1) t = none ∧ ∀ m, m ≠ fieldNat d 3 1 → findPeer m t = findPeer m s.tbc.peers) ∧
        (fieldNat d 1 1 = 1 →
          ∃ l, exec (.clearAttention ident d) s = .next (s.heard.setAtu { s.atu with statuses := l }).begun.refresh ∧
            ∀ x, x ∈ l ↔ x ∈ s.atu.statuses ∧ (fieldNat d 2 2).testBit x.bit = false))

/-- R128 to R131, R140 to R143, R183: where the interface is OFF, BUS-OFF or listening, no frame of another station changes
anything. Elsewhere a frame is disregarded whose identifier gives a sender above 16; and, where its sender is not the own
number, one of an undefined kind, a REPLY, one whose length is not its kind's, a peer's frame from berth 0, a station's
frame from a berth, and a station's frame for another berth or of an undefined item or command. A disregarded frame
changes no item of any block; a frame with the own number as its sender is taken by R131 whatever its kind, length and
content. The model's choices in it: a frame received, a disregarded one too, lowers the receive error count and ends the
attempt of an own frame, of one that BUS-LOST withdrew as well, with the next attempt begun at the command's end (log
entries 13, 14 and 15); and a frame is what its identifier says, whichever row carries it (log entry 63). -/
def Obligations.UnwantedFramesChangeNothing : Prop :=
  ∀ s : State,
    (s.tbc.can.onBus = false → s.settled = true → ∀ c : Instr, isFrame c = true → exec c s = .next s.refresh) ∧
    (∀ (c : Instr) (f : BusFrame), frameOf c = some f →
      let kind := f.ident.toNat / 32
      let sender := f.ident.toNat % 32
      let d := f.data
      let taken (of : List (Nat × Nat)) : Prop := (kind, d.length) ∈ of
      let peers := [(2, 3), (4, 4), (5, 1), (6, 0), (8, 8)]
      let station := [(12, 3), (14, 3), (15, 4)]
      (16 < sender ∨ sender ≠ s.own ∧
          (¬taken (peers ++ station) ∨ taken peers ∧ sender = 0 ∨ taken station ∧ sender ≠ 0 ∨
            taken station ∧ (fieldNat d 0 1 ≠ s.own ∨
              kind = 12 ∧ (fieldNat d 1 1 = 0 ∨ 4 < fieldNat d 1 1) ∨
              kind = 15 ∧ (fieldNat d 1 1 = 0 ∨ 2 < fieldNat d 1 1))) →
        exec c s = exec .frameDisregarded s ∧
          (s.tbc.can.onBus = true → s.settled = true → exec c s = .next s.heard.begun.refresh)) ∧
      (sender ≤ 16 → sender = s.own → exec c s = exec .ownNumberFrame s))

/-! ### Claims and the step slot -/

/-- R151, R157, R158: at its window end a peer's bid is adopted unless objected to, and removed; a step bid not objected
to becomes a step hold; a step hold of 300 s ends. The end of a bid is an attempt point. The end of a step bid or of a step
hold is one exactly while a step request stands: that it is none without one is the model's choice (log entry 45). -/
def Obligations.PeerWindowsAndHoldsEnd : Prop :=
  ∀ (n : Nat) (s : State),
    (∀ p e, findPeer n s.tbc.peers = some p → p.bid = some e →
      let o := Clu.peerWindowEnd n s
      let claimed : Peer := { p with bid := none, k := e.k }
      exec (.peerBidWindowEnd n) s = .next o.conclude ∧ o.1 = s.setTbc o.1.tbc ∧ o.2 = [.cluAttempt] ∧
      (e.objected = true → findPeer n o.1.tbc.peers = some { p with bid := none }) ∧
      (e.objected = false → e.kind = .charge → findPeer n o.1.tbc.peers = some claimed) ∧
      (e.objected = false → e.kind ≠ .charge →
        findPeer n o.1.tbc.peers = some { claimed with floor := e.k, floorPending := false }) ∧
      ∀ m, m ≠ n → findPeer m o.1.tbc.peers = findPeer m s.tbc.peers) ∧
    (∀ r, StepsOrdered s.own s.clu.stepList → s.stepBidOf n = some r →
      let o := Clu.stepWindowEnd n s
      exec (.peerStepBidWindowEnd n) s = .next o.conclude ∧
        o.1 = (s.setTbc o.1.tbc).setClu o.1.clu ∧ o.1.stepBidOf n = none ∧
      (r.objected = false → o.1.holdRecorded n = true) ∧
      (r.objected = true → o.1.holdRecorded n = s.holdRecorded n) ∧
      o.2 = if s.clu.stepReq then [.cluAttempt] else []) ∧
    (StepsOrdered s.own s.clu.stepList → s.holdRecorded n = true →
      let o := Clu.holdExpired n s
      exec (.peerStepHoldExpiry n) s = .next o.conclude ∧
        o.1 = (s.setTbc o.1.tbc).setClu o.1.clu ∧ o.1.holdRecorded n = false ∧
      o.2 = if s.clu.stepReq then [.cluAttempt] else [])

/-- R148, R152, R156: an own bid still OPEN at its window's end commits: a FLOOR takes the proposed K as Kf, a TOPUP raises
Kf to it, a CHARGE takes what it exceeds Kf by as Kc, a STEP takes the slot, with its reports. The backoff's expiry is
an attempt point. -/
def Obligations.OwnWindowCommits : Prop :=
  ∀ s : State,
    (∀ w, s.clu.bid = some w → w.window.isSome = true →
      let o := Clu.windowExpired s
      exec .ownWindowExpiry s = .next o.conclude ∧ o.1 = s.setClu o.1.clu ∧ o.1.clu.bid = none ∧ .cluAttempt ∈ o.2 ∧
      (w.kind = .claim .floor → o.1.clu.kf = w.k ∧ o.1.clu.kc = 0 ∧ o.1.clu.pendingFloor = none ∧
        o.1.clu.floorReq = none ∧ o.1.clu.budgetWait = false ∧ .csqFloorHeld ∈ o.2) ∧
      (w.kind = .claim .topup → o.1.clu = { s.clu with bid := none, kf := w.k }) ∧
      (w.kind = .claim .charge → o.1.clu = { s.clu with bid := none, kc := w.k - s.clu.kf }) ∧
      (w.kind = .step → o.1.clu = { s.clu with bid := none, stepHeld := true, stepReq := false } ∧
        .bkdSlot true ∈ o.2 ∧ .csqSlotHeld ∈ o.2) ∧
      (o.1.clu.claim ≠ s.clu.claim → .tbcStatus ∈ o.2 ∧ .slcCeiling ∈ o.2)) ∧
    (s.clu.backoff.isSome = true →
      exec .backoffExpiry s = .next (Out.conclude (s.setClu { s.clu with backoff := none }, [.cluAttempt])))

/-- R152 to R154, R162: the grace ends a lowering at its pending ceiling; the top-up timer comes to rest; a floor
request unmet after its minute is BUDGET-WAIT; the pass timer runs a share pass. That the end of the grace leaves the
low-draw run count as it was is the model's choice (log entry 45). -/
def Obligations.ClaimTimersExpire : Prop :=
  ∀ s : State,
    (∀ p, s.clu.grace.isSome = true → s.clu.pendingCeiling = some p →
      let o := Clu.graceExpired s
      exec .graceTimerExpiry s = .next o.conclude ∧ .slcCeiling ∈ o.2 ∧
      o.1 = s.setClu { s.clu with kc := p - s.clu.kf, pendingCeiling := none, grace := none }) ∧
    (s.settled = true → exec .topupTimerExpiry s = .next (s.setClu { s.clu with topup := none }).refresh) ∧
    (s.clu.floorReq.isSome = true → s.clu.kf = 0 → s.clu.budgetWait = false →
      exec .budgetWaitOnset s =
        .next (Out.conclude (s.setClu { s.clu with budgetWait := true }, [.atuSources]))) ∧
    (s.shc.pass.isSome = true → s.running = true →
      let o := Shc.passExpired s
      exec .passTimerExpiry s = .next o.conclude ∧
      o.1 = s.setShc { s.sharePass with pass := some 1000 } ∧
      (∃ l, o.2 = l ++ [.cluDecision s.sharePass.decision, .cluAttempt]))

/-- R145, R146, R152: an attempt point makes no bid while one of its conditions forbids it, the overcommitted view among them,
taken with the pending floor that it has taken afresh, and makes a bid that proposes a
claim only where the peers' contributions and the proposal together are within Avail; a step bid only where no peer
holds or bids for the slot. -/
def Obligations.AttemptBidsWithinAvail : Prop :=
  ∀ s : State,
    let t := (handle .cluAttempt s).1
    (s.csq.state = .start ∨ s.tbc.busLost = true ∨ s.slc.link ≠ .up ∨ s.tbc.duplicate = true ∨
        s.clu.backoff.isSome = true ∨ s.clu.bid.isSome = true ∨
        (s.setClu (s.clu.refreshFloor s.shc.fr)).overcommitted = true →
      t.clu.bid = s.clu.bid ∧ t.clu.claim = s.clu.claim ∧ t.clu.stepHeld = s.clu.stepHeld) ∧
    (∀ w, s.clu.bid = none → t.clu.bid = some w →
      w.window = none ∧ w.serial = s.clu.nextSerial ∧ t.clu.nextSerial = (if w.serial = 255 then 0 else w.serial + 1) ∧
      (w.kind ≠ .step → contributions s.tbc.peers + w.k ≤ s.avail) ∧ (w.kind = .step → s.stepTest = true)) ∧
    (t.clu.claim ≠ s.clu.claim → s.figs.solitary = true)

/-! ### Share arithmetic -/

/-- R163, R164: the floor request is the least multiple of 10 at or above H times 11 over 10, kept within 10 and R; the
required rate is the least whole number of kW that brings E in within T, and the urgency code the least number of 20 kW
steps at or above it, each held at the end of its range. R166, R168, R169: the target is a multiple of 10 within R − Kf,
and 0 outside SHORE and RELEASE-WAIT, with the link hold expired, overcommitted or with no pool; the decision lowers a
charge part above it, raises one at least 50 below it by 500 at most, and leaves the rest. -/
def Obligations.ShareFiguresAndDecision : Prop :=
  (∀ h r : Nat, ∃ m, m % 10 = 0 ∧ h * 11 ≤ 10 * m ∧ 10 * m < h * 11 + 100 ∧ floorRequest h r = max 10 (min r m)) ∧
  (∀ e t : Nat, 0 < e → 0 < t → ∃ u, e * 60 ≤ u * t ∧ u * t < e * 60 + t ∧
    requiredRate (some e) (some t) = min 65535 u) ∧
  (∀ e t : Nat, 0 < e → requiredRate (some e) (some 0) = 65535 ∧ requiredRate (some e) none = 0 ∧
    requiredRate none (some t) = 0 ∧ requiredRate (some 0) (some t) = 0) ∧
  (∀ u : Nat, ∃ c, u ≤ 20 * c ∧ 20 * c < u + 20 ∧ urgency u = min 255 c) ∧
  (∀ (s : State) (uq cd : Nat) (pool : Int),
    s.ownTarget uq cd pool % 10 = 0 ∧ s.ownTarget uq cd pool ≤ s.figs.r - s.clu.kf ∧
    (pool ≤ 0 ∨ (s.csq.state ≠ .shore ∧ s.csq.state ≠ .releaseWait) ∨ s.slc.holdExpired = true ∨
        s.overcommitted = true → s.ownTarget uq cd pool = 0) ∧
    ((∀ p ∈ s.tbc.peers, p.berth ≠ s.own) → s.ownTarget uq 0 pool = 0)) ∧
  (∀ (tc : Nat) (c : Clu),
    (decideShare tc c = .lower (c.kf + tc) ↔ tc < c.kc) ∧
    (∀ k, decideShare tc c = .raise k ↔
      c.kc + 50 ≤ tc ∧ k = c.kf + c.kc + min (tc - c.kc) 500) ∧
    (decideShare tc c = .noChange ↔ c.kc ≤ tc ∧ tc < c.kc + 50))

/-- R167: the ranking holds every candidate once, the more urgent first and among equals the lower berth number first;
what a berth is given is the lesser of its charge demand and what the candidates before it leave of the pool. -/
def Obligations.RankingOrdersCandidates : Prop :=
  ∀ (l : List Candidate) (pool : Nat), (l.map fun a => a.berth).Nodup →
    (ranked l).Perm l ∧ (ranked l).Pairwise (fun a b => a.before b = true) ∧
    (∀ a ∈ l, walkShare a.berth (ranked l) pool =
      min a.cd (pool - ((l.filter fun b => b.before a).map fun b => b.cd).sum)) ∧
    (∀ n, (∀ a ∈ l, a.berth ≠ n) → walkShare n (ranked l) pool = 0)

/-! ### What every step keeps -/

/-- The trip record, the result log and the counts of the metering port, the supply prover, the synchronism checker, the
claim unit and the share calculator stay in order through every step (R22, R24, R29, R37, R86, R88, R89, R96, R147, R153,
R154, R164, R170, section 6.2), and SHORE-PROVEN stands only while the stability count is N (R28). -/
def Obligations.RecordsAndCountsStayInOrder : Prop :=
  ∀ s t : State, step s = .next t →
    (s.ptu.Ordered → t.ptu.Ordered) ∧ (s.csq.Ordered → t.csq.Ordered) ∧ (s.CountsOrdered → t.CountsOrdered) ∧
    (s.ProofOrdered → t.ProofOrdered)

/-- The queues of the two links, the error counts, the peer table and the step list stay in order through every step, and
nothing is filed, queued or attempted before the load or in solitary mode; an attempt is made on the bus alone, of a queued
frame or of one that BUS-LOST withdrew (R114, R128, R129, R132, R138, R142, R143, R157; that an attempt is held in the state
is the model's choice, log entry 14). -/
def Obligations.BusesStayInOrder : Prop :=
  ∀ s t : State, s.BusQuiet → s.slc.Ordered → s.tbc.Ordered → PeersOrdered s.own s.tbc.peers →
    StepsOrdered s.own s.clu.stepList → step s = .next t →
    t.BusQuiet ∧ t.slc.Ordered ∧ t.tbc.Ordered ∧ PeersOrdered t.own t.tbc.peers ∧ StepsOrdered t.own t.clu.stepList

/-- HOLD is energised only while the breaker is closing or closed and only while all four hold conditions hold, CLOSE is
asserted only while the slot is held, and an earthing switch output only in a travel, through every step (R12 to R14,
R70, R71, R80; at the model's own bound of a chain of hand-offs too, log entry 5). -/
def Obligations.DrivesStaySafe : Prop :=
  ∀ s t : State, s.BreakerSafe → s.esd.DriveSafe → step s = .next t → t.BreakerSafe ∧ t.esd.DriveSafe

/-- The machine right after reset meets every invariant. -/
def Obligations.InvariantsHoldAtReset : Prop :=
  State.reset.ptu.Ordered ∧ State.reset.csq.Ordered ∧ State.reset.BusQuiet ∧ State.reset.slc.Ordered ∧
  State.reset.tbc.Ordered ∧ PeersOrdered State.reset.own State.reset.tbc.peers ∧
  StepsOrdered State.reset.own State.reset.clu.stepList ∧ State.reset.CountsOrdered ∧
  State.reset.ProofOrdered ∧ State.reset.SetDerived ∧ State.reset.BreakerSafe ∧ State.reset.esd.DriveSafe

/-- R40, R62, R96, R107 to R111: only a CONNECT press clears the re-transfer mask, and only an ACK press, a frame with the
identifier of an ACK-TRIP or a power-on takes a source out of the latched set. Section 1.6, R18, R21, R22, R25, R180: an
input line changes only by the command of its change, the metering port only by a delivery, a check event, the end of the
census or a command of the start. The model's choices in it: that power-on and an external reset leave the input lines as
they stand (log entry 1), and that a frame is what its identifier says, whichever row carries it (log entry 63). -/
def Obligations.OnlyTheirCommandsReachThem : Prop :=
  ∀ (c : Instr) (s t : State), exec c s = .next t →
    (s.csq.mask = true → t.csq.mask = false → c = .connectPress) ∧
    (∀ x, x ∈ s.ptu.latched → x ∉ t.ptu.latched →
      c = .ackPress ∨ (∃ f, frameOf c = some f ∧ f.ident.toNat = 448) ∨ ∃ n, c = .powerOn n) ∧
    (t.pins ≠ s.pins →
      (∃ i, c = .pilotMade i ∨ c = .pilotOpened i) ∨ (∃ b, c = .earthchkChange b ∨ c = .estopChange b) ∨
      (∃ i b, c = .latchFeedbackChange i b) ∨ (∃ a b, c = .eswPositionChange a b ∨ c = .auxContactChange a b) ∨
      ∃ b p, c = .buttonInputChange b p) ∧
    (t.mtp ≠ s.mtp → isStart c = true ∨ (∃ d, c = .meteringDelivery d) ∨ c = .checkEvent ∨ c = .censusTimerExpiry)
end

