-- ==== Sys2Proof/Laws/State.lean ====
section
/-!
SUPPORT. What each setter of State leaves in each field, one lemma for each field and setter; two settings of one field;
and the figures that are read through a setter. Later proofs unfold no record update of State.
-/

namespace Sys2Proof.Machine

variable (s : State)

/-! ### State.setPins -/

@[simp] theorem State.setPins_pins (v : Pins) : (s.setPins v).pins = v := rfl
@[simp] theorem State.setPins_cfl (v : Pins) : (s.setPins v).cfl = s.cfl := rfl
@[simp] theorem State.setPins_psm (v : Pins) : (s.setPins v).psm = s.psm := rfl
@[simp] theorem State.setPins_esd (v : Pins) : (s.setPins v).esd = s.esd := rfl
@[simp] theorem State.setPins_mtp (v : Pins) : (s.setPins v).mtp = s.mtp := rfl
@[simp] theorem State.setPins_spv (v : Pins) : (s.setPins v).spv = s.spv := rfl
@[simp] theorem State.setPins_csq (v : Pins) : (s.setPins v).csq = s.csq := rfl
@[simp] theorem State.setPins_bkd (v : Pins) : (s.setPins v).bkd = s.bkd := rfl
@[simp] theorem State.setPins_syc (v : Pins) : (s.setPins v).syc = s.syc := rfl
@[simp] theorem State.setPins_ptu (v : Pins) : (s.setPins v).ptu = s.ptu := rfl
@[simp] theorem State.setPins_slc (v : Pins) : (s.setPins v).slc = s.slc := rfl
@[simp] theorem State.setPins_tbc (v : Pins) : (s.setPins v).tbc = s.tbc := rfl
@[simp] theorem State.setPins_clu (v : Pins) : (s.setPins v).clu = s.clu := rfl
@[simp] theorem State.setPins_shc (v : Pins) : (s.setPins v).shc = s.shc := rfl
@[simp] theorem State.setPins_pnl (v : Pins) : (s.setPins v).pnl = s.pnl := rfl
@[simp] theorem State.setPins_atu (v : Pins) : (s.setPins v).atu = s.atu := rfl
@[simp] theorem State.setPins_out (v : Pins) : (s.setPins v).out = s.out := rfl
@[simp] theorem State.setPins_pending (v : Pins) : (s.setPins v).pending = s.pending := rfl
@[simp] theorem State.setPins_setPins (v w : Pins) : (s.setPins v).setPins w = s.setPins w := rfl
@[simp] theorem State.setPins_running (v : Pins) : (s.setPins v).running = s.running := rfl

/-! ### State.setCfl -/

@[simp] theorem State.setCfl_pins (v : Cfl) : (s.setCfl v).pins = s.pins := rfl
@[simp] theorem State.setCfl_cfl (v : Cfl) : (s.setCfl v).cfl = v := rfl
@[simp] theorem State.setCfl_psm (v : Cfl) : (s.setCfl v).psm = s.psm := rfl
@[simp] theorem State.setCfl_esd (v : Cfl) : (s.setCfl v).esd = s.esd := rfl
@[simp] theorem State.setCfl_mtp (v : Cfl) : (s.setCfl v).mtp = s.mtp := rfl
@[simp] theorem State.setCfl_spv (v : Cfl) : (s.setCfl v).spv = s.spv := rfl
@[simp] theorem State.setCfl_csq (v : Cfl) : (s.setCfl v).csq = s.csq := rfl
@[simp] theorem State.setCfl_bkd (v : Cfl) : (s.setCfl v).bkd = s.bkd := rfl
@[simp] theorem State.setCfl_syc (v : Cfl) : (s.setCfl v).syc = s.syc := rfl
@[simp] theorem State.setCfl_ptu (v : Cfl) : (s.setCfl v).ptu = s.ptu := rfl
@[simp] theorem State.setCfl_slc (v : Cfl) : (s.setCfl v).slc = s.slc := rfl
@[simp] theorem State.setCfl_tbc (v : Cfl) : (s.setCfl v).tbc = s.tbc := rfl
@[simp] theorem State.setCfl_clu (v : Cfl) : (s.setCfl v).clu = s.clu := rfl
@[simp] theorem State.setCfl_shc (v : Cfl) : (s.setCfl v).shc = s.shc := rfl
@[simp] theorem State.setCfl_pnl (v : Cfl) : (s.setCfl v).pnl = s.pnl := rfl
@[simp] theorem State.setCfl_atu (v : Cfl) : (s.setCfl v).atu = s.atu := rfl
@[simp] theorem State.setCfl_out (v : Cfl) : (s.setCfl v).out = s.out := rfl
@[simp] theorem State.setCfl_pending (v : Cfl) : (s.setCfl v).pending = s.pending := rfl
@[simp] theorem State.setCfl_setCfl (v w : Cfl) : (s.setCfl v).setCfl w = s.setCfl w := rfl

/-! ### State.setPsm -/

@[simp] theorem State.setPsm_pins (v : Psm) : (s.setPsm v).pins = s.pins := rfl
@[simp] theorem State.setPsm_cfl (v : Psm) : (s.setPsm v).cfl = s.cfl := rfl
@[simp] theorem State.setPsm_psm (v : Psm) : (s.setPsm v).psm = v := rfl
@[simp] theorem State.setPsm_esd (v : Psm) : (s.setPsm v).esd = s.esd := rfl
@[simp] theorem State.setPsm_mtp (v : Psm) : (s.setPsm v).mtp = s.mtp := rfl
@[simp] theorem State.setPsm_spv (v : Psm) : (s.setPsm v).spv = s.spv := rfl
@[simp] theorem State.setPsm_csq (v : Psm) : (s.setPsm v).csq = s.csq := rfl
@[simp] theorem State.setPsm_bkd (v : Psm) : (s.setPsm v).bkd = s.bkd := rfl
@[simp] theorem State.setPsm_syc (v : Psm) : (s.setPsm v).syc = s.syc := rfl
@[simp] theorem State.setPsm_ptu (v : Psm) : (s.setPsm v).ptu = s.ptu := rfl
@[simp] theorem State.setPsm_slc (v : Psm) : (s.setPsm v).slc = s.slc := rfl
@[simp] theorem State.setPsm_tbc (v : Psm) : (s.setPsm v).tbc = s.tbc := rfl
@[simp] theorem State.setPsm_clu (v : Psm) : (s.setPsm v).clu = s.clu := rfl
@[simp] theorem State.setPsm_shc (v : Psm) : (s.setPsm v).shc = s.shc := rfl
@[simp] theorem State.setPsm_pnl (v : Psm) : (s.setPsm v).pnl = s.pnl := rfl
@[simp] theorem State.setPsm_atu (v : Psm) : (s.setPsm v).atu = s.atu := rfl
@[simp] theorem State.setPsm_out (v : Psm) : (s.setPsm v).out = s.out := rfl
@[simp] theorem State.setPsm_pending (v : Psm) : (s.setPsm v).pending = s.pending := rfl
@[simp] theorem State.setPsm_setPsm (v w : Psm) : (s.setPsm v).setPsm w = s.setPsm w := rfl
@[simp] theorem State.setPsm_running (v : Psm) : (s.setPsm v).running = s.running := rfl

/-! ### State.setEsd -/

@[simp] theorem State.setEsd_pins (v : Esd) : (s.setEsd v).pins = s.pins := rfl
@[simp] theorem State.setEsd_cfl (v : Esd) : (s.setEsd v).cfl = s.cfl := rfl
@[simp] theorem State.setEsd_psm (v : Esd) : (s.setEsd v).psm = s.psm := rfl
@[simp] theorem State.setEsd_esd (v : Esd) : (s.setEsd v).esd = v := rfl
@[simp] theorem State.setEsd_mtp (v : Esd) : (s.setEsd v).mtp = s.mtp := rfl
@[simp] theorem State.setEsd_spv (v : Esd) : (s.setEsd v).spv = s.spv := rfl
@[simp] theorem State.setEsd_csq (v : Esd) : (s.setEsd v).csq = s.csq := rfl
@[simp] theorem State.setEsd_bkd (v : Esd) : (s.setEsd v).bkd = s.bkd := rfl
@[simp] theorem State.setEsd_syc (v : Esd) : (s.setEsd v).syc = s.syc := rfl
@[simp] theorem State.setEsd_ptu (v : Esd) : (s.setEsd v).ptu = s.ptu := rfl
@[simp] theorem State.setEsd_slc (v : Esd) : (s.setEsd v).slc = s.slc := rfl
@[simp] theorem State.setEsd_tbc (v : Esd) : (s.setEsd v).tbc = s.tbc := rfl
@[simp] theorem State.setEsd_clu (v : Esd) : (s.setEsd v).clu = s.clu := rfl
@[simp] theorem State.setEsd_shc (v : Esd) : (s.setEsd v).shc = s.shc := rfl
@[simp] theorem State.setEsd_pnl (v : Esd) : (s.setEsd v).pnl = s.pnl := rfl
@[simp] theorem State.setEsd_atu (v : Esd) : (s.setEsd v).atu = s.atu := rfl
@[simp] theorem State.setEsd_out (v : Esd) : (s.setEsd v).out = s.out := rfl
@[simp] theorem State.setEsd_pending (v : Esd) : (s.setEsd v).pending = s.pending := rfl
@[simp] theorem State.setEsd_setEsd (v w : Esd) : (s.setEsd v).setEsd w = s.setEsd w := rfl
@[simp] theorem State.setEsd_running (v : Esd) : (s.setEsd v).running = s.running := rfl

/-! ### State.setMtp -/

@[simp] theorem State.setMtp_pins (v : Mtp) : (s.setMtp v).pins = s.pins := rfl
@[simp] theorem State.setMtp_cfl (v : Mtp) : (s.setMtp v).cfl = s.cfl := rfl
@[simp] theorem State.setMtp_psm (v : Mtp) : (s.setMtp v).psm = s.psm := rfl
@[simp] theorem State.setMtp_esd (v : Mtp) : (s.setMtp v).esd = s.esd := rfl
@[simp] theorem State.setMtp_mtp (v : Mtp) : (s.setMtp v).mtp = v := rfl
@[simp] theorem State.setMtp_spv (v : Mtp) : (s.setMtp v).spv = s.spv := rfl
@[simp] theorem State.setMtp_csq (v : Mtp) : (s.setMtp v).csq = s.csq := rfl
@[simp] theorem State.setMtp_bkd (v : Mtp) : (s.setMtp v).bkd = s.bkd := rfl
@[simp] theorem State.setMtp_syc (v : Mtp) : (s.setMtp v).syc = s.syc := rfl
@[simp] theorem State.setMtp_ptu (v : Mtp) : (s.setMtp v).ptu = s.ptu := rfl
@[simp] theorem State.setMtp_slc (v : Mtp) : (s.setMtp v).slc = s.slc := rfl
@[simp] theorem State.setMtp_tbc (v : Mtp) : (s.setMtp v).tbc = s.tbc := rfl
@[simp] theorem State.setMtp_clu (v : Mtp) : (s.setMtp v).clu = s.clu := rfl
@[simp] theorem State.setMtp_shc (v : Mtp) : (s.setMtp v).shc = s.shc := rfl
@[simp] theorem State.setMtp_pnl (v : Mtp) : (s.setMtp v).pnl = s.pnl := rfl
@[simp] theorem State.setMtp_atu (v : Mtp) : (s.setMtp v).atu = s.atu := rfl
@[simp] theorem State.setMtp_out (v : Mtp) : (s.setMtp v).out = s.out := rfl
@[simp] theorem State.setMtp_pending (v : Mtp) : (s.setMtp v).pending = s.pending := rfl
@[simp] theorem State.setMtp_setMtp (v w : Mtp) : (s.setMtp v).setMtp w = s.setMtp w := rfl
@[simp] theorem State.setMtp_running (v : Mtp) : (s.setMtp v).running = s.running := rfl

/-! ### State.setSpv -/

@[simp] theorem State.setSpv_pins (v : Spv) : (s.setSpv v).pins = s.pins := rfl
@[simp] theorem State.setSpv_cfl (v : Spv) : (s.setSpv v).cfl = s.cfl := rfl
@[simp] theorem State.setSpv_psm (v : Spv) : (s.setSpv v).psm = s.psm := rfl
@[simp] theorem State.setSpv_esd (v : Spv) : (s.setSpv v).esd = s.esd := rfl
@[simp] theorem State.setSpv_mtp (v : Spv) : (s.setSpv v).mtp = s.mtp := rfl
@[simp] theorem State.setSpv_spv (v : Spv) : (s.setSpv v).spv = v := rfl
@[simp] theorem State.setSpv_csq (v : Spv) : (s.setSpv v).csq = s.csq := rfl
@[simp] theorem State.setSpv_bkd (v : Spv) : (s.setSpv v).bkd = s.bkd := rfl
@[simp] theorem State.setSpv_syc (v : Spv) : (s.setSpv v).syc = s.syc := rfl
@[simp] theorem State.setSpv_ptu (v : Spv) : (s.setSpv v).ptu = s.ptu := rfl
@[simp] theorem State.setSpv_slc (v : Spv) : (s.setSpv v).slc = s.slc := rfl
@[simp] theorem State.setSpv_tbc (v : Spv) : (s.setSpv v).tbc = s.tbc := rfl
@[simp] theorem State.setSpv_clu (v : Spv) : (s.setSpv v).clu = s.clu := rfl
@[simp] theorem State.setSpv_shc (v : Spv) : (s.setSpv v).shc = s.shc := rfl
@[simp] theorem State.setSpv_pnl (v : Spv) : (s.setSpv v).pnl = s.pnl := rfl
@[simp] theorem State.setSpv_atu (v : Spv) : (s.setSpv v).atu = s.atu := rfl
@[simp] theorem State.setSpv_out (v : Spv) : (s.setSpv v).out = s.out := rfl
@[simp] theorem State.setSpv_pending (v : Spv) : (s.setSpv v).pending = s.pending := rfl
@[simp] theorem State.setSpv_setSpv (v w : Spv) : (s.setSpv v).setSpv w = s.setSpv w := rfl
@[simp] theorem State.setSpv_running (v : Spv) : (s.setSpv v).running = s.running := rfl

/-! ### State.setCsq -/

@[simp] theorem State.setCsq_pins (v : Csq) : (s.setCsq v).pins = s.pins := rfl
@[simp] theorem State.setCsq_cfl (v : Csq) : (s.setCsq v).cfl = s.cfl := rfl
@[simp] theorem State.setCsq_psm (v : Csq) : (s.setCsq v).psm = s.psm := rfl
@[simp] theorem State.setCsq_esd (v : Csq) : (s.setCsq v).esd = s.esd := rfl
@[simp] theorem State.setCsq_mtp (v : Csq) : (s.setCsq v).mtp = s.mtp := rfl
@[simp] theorem State.setCsq_spv (v : Csq) : (s.setCsq v).spv = s.spv := rfl
@[simp] theorem State.setCsq_csq (v : Csq) : (s.setCsq v).csq = v := rfl
@[simp] theorem State.setCsq_bkd (v : Csq) : (s.setCsq v).bkd = s.bkd := rfl
@[simp] theorem State.setCsq_syc (v : Csq) : (s.setCsq v).syc = s.syc := rfl
@[simp] theorem State.setCsq_ptu (v : Csq) : (s.setCsq v).ptu = s.ptu := rfl
@[simp] theorem State.setCsq_slc (v : Csq) : (s.setCsq v).slc = s.slc := rfl
@[simp] theorem State.setCsq_tbc (v : Csq) : (s.setCsq v).tbc = s.tbc := rfl
@[simp] theorem State.setCsq_clu (v : Csq) : (s.setCsq v).clu = s.clu := rfl
@[simp] theorem State.setCsq_shc (v : Csq) : (s.setCsq v).shc = s.shc := rfl
@[simp] theorem State.setCsq_pnl (v : Csq) : (s.setCsq v).pnl = s.pnl := rfl
@[simp] theorem State.setCsq_atu (v : Csq) : (s.setCsq v).atu = s.atu := rfl
@[simp] theorem State.setCsq_out (v : Csq) : (s.setCsq v).out = s.out := rfl
@[simp] theorem State.setCsq_pending (v : Csq) : (s.setCsq v).pending = s.pending := rfl
@[simp] theorem State.setCsq_setCsq (v w : Csq) : (s.setCsq v).setCsq w = s.setCsq w := rfl
@[simp] theorem State.setCsq_running (v : Csq) : (s.setCsq v).running = s.running := rfl

/-! ### State.setBkd -/

@[simp] theorem State.setBkd_pins (v : Bkd) : (s.setBkd v).pins = s.pins := rfl
@[simp] theorem State.setBkd_cfl (v : Bkd) : (s.setBkd v).cfl = s.cfl := rfl
@[simp] theorem State.setBkd_psm (v : Bkd) : (s.setBkd v).psm = s.psm := rfl
@[simp] theorem State.setBkd_esd (v : Bkd) : (s.setBkd v).esd = s.esd := rfl
@[simp] theorem State.setBkd_mtp (v : Bkd) : (s.setBkd v).mtp = s.mtp := rfl
@[simp] theorem State.setBkd_spv (v : Bkd) : (s.setBkd v).spv = s.spv := rfl
@[simp] theorem State.setBkd_csq (v : Bkd) : (s.setBkd v).csq = s.csq := rfl
@[simp] theorem State.setBkd_bkd (v : Bkd) : (s.setBkd v).bkd = v := rfl
@[simp] theorem State.setBkd_syc (v : Bkd) : (s.setBkd v).syc = s.syc := rfl
@[simp] theorem State.setBkd_ptu (v : Bkd) : (s.setBkd v).ptu = s.ptu := rfl
@[simp] theorem State.setBkd_slc (v : Bkd) : (s.setBkd v).slc = s.slc := rfl
@[simp] theorem State.setBkd_tbc (v : Bkd) : (s.setBkd v).tbc = s.tbc := rfl
@[simp] theorem State.setBkd_clu (v : Bkd) : (s.setBkd v).clu = s.clu := rfl
@[simp] theorem State.setBkd_shc (v : Bkd) : (s.setBkd v).shc = s.shc := rfl
@[simp] theorem State.setBkd_pnl (v : Bkd) : (s.setBkd v).pnl = s.pnl := rfl
@[simp] theorem State.setBkd_atu (v : Bkd) : (s.setBkd v).atu = s.atu := rfl
@[simp] theorem State.setBkd_out (v : Bkd) : (s.setBkd v).out = s.out := rfl
@[simp] theorem State.setBkd_pending (v : Bkd) : (s.setBkd v).pending = s.pending := rfl
@[simp] theorem State.setBkd_setBkd (v w : Bkd) : (s.setBkd v).setBkd w = s.setBkd w := rfl
@[simp] theorem State.setBkd_running (v : Bkd) : (s.setBkd v).running = s.running := rfl

/-! ### State.setSyc -/

@[simp] theorem State.setSyc_pins (v : Syc) : (s.setSyc v).pins = s.pins := rfl
@[simp] theorem State.setSyc_cfl (v : Syc) : (s.setSyc v).cfl = s.cfl := rfl
@[simp] theorem State.setSyc_psm (v : Syc) : (s.setSyc v).psm = s.psm := rfl
@[simp] theorem State.setSyc_esd (v : Syc) : (s.setSyc v).esd = s.esd := rfl
@[simp] theorem State.setSyc_mtp (v : Syc) : (s.setSyc v).mtp = s.mtp := rfl
@[simp] theorem State.setSyc_spv (v : Syc) : (s.setSyc v).spv = s.spv := rfl
@[simp] theorem State.setSyc_csq (v : Syc) : (s.setSyc v).csq = s.csq := rfl
@[simp] theorem State.setSyc_bkd (v : Syc) : (s.setSyc v).bkd = s.bkd := rfl
@[simp] theorem State.setSyc_syc (v : Syc) : (s.setSyc v).syc = v := rfl
@[simp] theorem State.setSyc_ptu (v : Syc) : (s.setSyc v).ptu = s.ptu := rfl
@[simp] theorem State.setSyc_slc (v : Syc) : (s.setSyc v).slc = s.slc := rfl
@[simp] theorem State.setSyc_tbc (v : Syc) : (s.setSyc v).tbc = s.tbc := rfl
@[simp] theorem State.setSyc_clu (v : Syc) : (s.setSyc v).clu = s.clu := rfl
@[simp] theorem State.setSyc_shc (v : Syc) : (s.setSyc v).shc = s.shc := rfl
@[simp] theorem State.setSyc_pnl (v : Syc) : (s.setSyc v).pnl = s.pnl := rfl
@[simp] theorem State.setSyc_atu (v : Syc) : (s.setSyc v).atu = s.atu := rfl
@[simp] theorem State.setSyc_out (v : Syc) : (s.setSyc v).out = s.out := rfl
@[simp] theorem State.setSyc_pending (v : Syc) : (s.setSyc v).pending = s.pending := rfl
@[simp] theorem State.setSyc_setSyc (v w : Syc) : (s.setSyc v).setSyc w = s.setSyc w := rfl
@[simp] theorem State.setSyc_running (v : Syc) : (s.setSyc v).running = s.running := rfl

/-! ### State.setPtu -/

@[simp] theorem State.setPtu_pins (v : Ptu) : (s.setPtu v).pins = s.pins := rfl
@[simp] theorem State.setPtu_cfl (v : Ptu) : (s.setPtu v).cfl = s.cfl := rfl
@[simp] theorem State.setPtu_psm (v : Ptu) : (s.setPtu v).psm = s.psm := rfl
@[simp] theorem State.setPtu_esd (v : Ptu) : (s.setPtu v).esd = s.esd := rfl
@[simp] theorem State.setPtu_mtp (v : Ptu) : (s.setPtu v).mtp = s.mtp := rfl
@[simp] theorem State.setPtu_spv (v : Ptu) : (s.setPtu v).spv = s.spv := rfl
@[simp] theorem State.setPtu_csq (v : Ptu) : (s.setPtu v).csq = s.csq := rfl
@[simp] theorem State.setPtu_bkd (v : Ptu) : (s.setPtu v).bkd = s.bkd := rfl
@[simp] theorem State.setPtu_syc (v : Ptu) : (s.setPtu v).syc = s.syc := rfl
@[simp] theorem State.setPtu_ptu (v : Ptu) : (s.setPtu v).ptu = v := rfl
@[simp] theorem State.setPtu_slc (v : Ptu) : (s.setPtu v).slc = s.slc := rfl
@[simp] theorem State.setPtu_tbc (v : Ptu) : (s.setPtu v).tbc = s.tbc := rfl
@[simp] theorem State.setPtu_clu (v : Ptu) : (s.setPtu v).clu = s.clu := rfl
@[simp] theorem State.setPtu_shc (v : Ptu) : (s.setPtu v).shc = s.shc := rfl
@[simp] theorem State.setPtu_pnl (v : Ptu) : (s.setPtu v).pnl = s.pnl := rfl
@[simp] theorem State.setPtu_atu (v : Ptu) : (s.setPtu v).atu = s.atu := rfl
@[simp] theorem State.setPtu_out (v : Ptu) : (s.setPtu v).out = s.out := rfl
@[simp] theorem State.setPtu_pending (v : Ptu) : (s.setPtu v).pending = s.pending := rfl
@[simp] theorem State.setPtu_setPtu (v w : Ptu) : (s.setPtu v).setPtu w = s.setPtu w := rfl
@[simp] theorem State.setPtu_running (v : Ptu) : (s.setPtu v).running = s.running := rfl

/-! ### State.setSlc -/

@[simp] theorem State.setSlc_pins (v : Slc) : (s.setSlc v).pins = s.pins := rfl
@[simp] theorem State.setSlc_cfl (v : Slc) : (s.setSlc v).cfl = s.cfl := rfl
@[simp] theorem State.setSlc_psm (v : Slc) : (s.setSlc v).psm = s.psm := rfl
@[simp] theorem State.setSlc_esd (v : Slc) : (s.setSlc v).esd = s.esd := rfl
@[simp] theorem State.setSlc_mtp (v : Slc) : (s.setSlc v).mtp = s.mtp := rfl
@[simp] theorem State.setSlc_spv (v : Slc) : (s.setSlc v).spv = s.spv := rfl
@[simp] theorem State.setSlc_csq (v : Slc) : (s.setSlc v).csq = s.csq := rfl
@[simp] theorem State.setSlc_bkd (v : Slc) : (s.setSlc v).bkd = s.bkd := rfl
@[simp] theorem State.setSlc_syc (v : Slc) : (s.setSlc v).syc = s.syc := rfl
@[simp] theorem State.setSlc_ptu (v : Slc) : (s.setSlc v).ptu = s.ptu := rfl
@[simp] theorem State.setSlc_slc (v : Slc) : (s.setSlc v).slc = v := rfl
@[simp] theorem State.setSlc_tbc (v : Slc) : (s.setSlc v).tbc = s.tbc := rfl
@[simp] theorem State.setSlc_clu (v : Slc) : (s.setSlc v).clu = s.clu := rfl
@[simp] theorem State.setSlc_shc (v : Slc) : (s.setSlc v).shc = s.shc := rfl
@[simp] theorem State.setSlc_pnl (v : Slc) : (s.setSlc v).pnl = s.pnl := rfl
@[simp] theorem State.setSlc_atu (v : Slc) : (s.setSlc v).atu = s.atu := rfl
@[simp] theorem State.setSlc_out (v : Slc) : (s.setSlc v).out = s.out := rfl
@[simp] theorem State.setSlc_pending (v : Slc) : (s.setSlc v).pending = s.pending := rfl
@[simp] theorem State.setSlc_setSlc (v w : Slc) : (s.setSlc v).setSlc w = s.setSlc w := rfl
@[simp] theorem State.setSlc_running (v : Slc) : (s.setSlc v).running = s.running := rfl

/-! ### State.setTbc -/

@[simp] theorem State.setTbc_pins (v : Tbc) : (s.setTbc v).pins = s.pins := rfl
@[simp] theorem State.setTbc_cfl (v : Tbc) : (s.setTbc v).cfl = s.cfl := rfl
@[simp] theorem State.setTbc_psm (v : Tbc) : (s.setTbc v).psm = s.psm := rfl
@[simp] theorem State.setTbc_esd (v : Tbc) : (s.setTbc v).esd = s.esd := rfl
@[simp] theorem State.setTbc_mtp (v : Tbc) : (s.setTbc v).mtp = s.mtp := rfl
@[simp] theorem State.setTbc_spv (v : Tbc) : (s.setTbc v).spv = s.spv := rfl
@[simp] theorem State.setTbc_csq (v : Tbc) : (s.setTbc v).csq = s.csq := rfl
@[simp] theorem State.setTbc_bkd (v : Tbc) : (s.setTbc v).bkd = s.bkd := rfl
@[simp] theorem State.setTbc_syc (v : Tbc) : (s.setTbc v).syc = s.syc := rfl
@[simp] theorem State.setTbc_ptu (v : Tbc) : (s.setTbc v).ptu = s.ptu := rfl
@[simp] theorem State.setTbc_slc (v : Tbc) : (s.setTbc v).slc = s.slc := rfl
@[simp] theorem State.setTbc_tbc (v : Tbc) : (s.setTbc v).tbc = v := rfl
@[simp] theorem State.setTbc_clu (v : Tbc) : (s.setTbc v).clu = s.clu := rfl
@[simp] theorem State.setTbc_shc (v : Tbc) : (s.setTbc v).shc = s.shc := rfl
@[simp] theorem State.setTbc_pnl (v : Tbc) : (s.setTbc v).pnl = s.pnl := rfl
@[simp] theorem State.setTbc_atu (v : Tbc) : (s.setTbc v).atu = s.atu := rfl
@[simp] theorem State.setTbc_out (v : Tbc) : (s.setTbc v).out = s.out := rfl
@[simp] theorem State.setTbc_pending (v : Tbc) : (s.setTbc v).pending = s.pending := rfl
@[simp] theorem State.setTbc_setTbc (v w : Tbc) : (s.setTbc v).setTbc w = s.setTbc w := rfl
@[simp] theorem State.setTbc_running (v : Tbc) : (s.setTbc v).running = s.running := rfl

/-! ### State.setClu -/

@[simp] theorem State.setClu_pins (v : Clu) : (s.setClu v).pins = s.pins := rfl
@[simp] theorem State.setClu_cfl (v : Clu) : (s.setClu v).cfl = s.cfl := rfl
@[simp] theorem State.setClu_psm (v : Clu) : (s.setClu v).psm = s.psm := rfl
@[simp] theorem State.setClu_esd (v : Clu) : (s.setClu v).esd = s.esd := rfl
@[simp] theorem State.setClu_mtp (v : Clu) : (s.setClu v).mtp = s.mtp := rfl
@[simp] theorem State.setClu_spv (v : Clu) : (s.setClu v).spv = s.spv := rfl
@[simp] theorem State.setClu_csq (v : Clu) : (s.setClu v).csq = s.csq := rfl
@[simp] theorem State.setClu_bkd (v : Clu) : (s.setClu v).bkd = s.bkd := rfl
@[simp] theorem State.setClu_syc (v : Clu) : (s.setClu v).syc = s.syc := rfl
@[simp] theorem State.setClu_ptu (v : Clu) : (s.setClu v).ptu = s.ptu := rfl
@[simp] theorem State.setClu_slc (v : Clu) : (s.setClu v).slc = s.slc := rfl
@[simp] theorem State.setClu_tbc (v : Clu) : (s.setClu v).tbc = s.tbc := rfl
@[simp] theorem State.setClu_clu (v : Clu) : (s.setClu v).clu = v := rfl
@[simp] theorem State.setClu_shc (v : Clu) : (s.setClu v).shc = s.shc := rfl
@[simp] theorem State.setClu_pnl (v : Clu) : (s.setClu v).pnl = s.pnl := rfl
@[simp] theorem State.setClu_atu (v : Clu) : (s.setClu v).atu = s.atu := rfl
@[simp] theorem State.setClu_out (v : Clu) : (s.setClu v).out = s.out := rfl
@[simp] theorem State.setClu_pending (v : Clu) : (s.setClu v).pending = s.pending := rfl
@[simp] theorem State.setClu_setClu (v w : Clu) : (s.setClu v).setClu w = s.setClu w := rfl
@[simp] theorem State.setClu_running (v : Clu) : (s.setClu v).running = s.running := rfl

/-! ### State.setShc -/

@[simp] theorem State.setShc_pins (v : Shc) : (s.setShc v).pins = s.pins := rfl
@[simp] theorem State.setShc_cfl (v : Shc) : (s.setShc v).cfl = s.cfl := rfl
@[simp] theorem State.setShc_psm (v : Shc) : (s.setShc v).psm = s.psm := rfl
@[simp] theorem State.setShc_esd (v : Shc) : (s.setShc v).esd = s.esd := rfl
@[simp] theorem State.setShc_mtp (v : Shc) : (s.setShc v).mtp = s.mtp := rfl
@[simp] theorem State.setShc_spv (v : Shc) : (s.setShc v).spv = s.spv := rfl
@[simp] theorem State.setShc_csq (v : Shc) : (s.setShc v).csq = s.csq := rfl
@[simp] theorem State.setShc_bkd (v : Shc) : (s.setShc v).bkd = s.bkd := rfl
@[simp] theorem State.setShc_syc (v : Shc) : (s.setShc v).syc = s.syc := rfl
@[simp] theorem State.setShc_ptu (v : Shc) : (s.setShc v).ptu = s.ptu := rfl
@[simp] theorem State.setShc_slc (v : Shc) : (s.setShc v).slc = s.slc := rfl
@[simp] theorem State.setShc_tbc (v : Shc) : (s.setShc v).tbc = s.tbc := rfl
@[simp] theorem State.setShc_clu (v : Shc) : (s.setShc v).clu = s.clu := rfl
@[simp] theorem State.setShc_shc (v : Shc) : (s.setShc v).shc = v := rfl
@[simp] theorem State.setShc_pnl (v : Shc) : (s.setShc v).pnl = s.pnl := rfl
@[simp] theorem State.setShc_atu (v : Shc) : (s.setShc v).atu = s.atu := rfl
@[simp] theorem State.setShc_out (v : Shc) : (s.setShc v).out = s.out := rfl
@[simp] theorem State.setShc_pending (v : Shc) : (s.setShc v).pending = s.pending := rfl
@[simp] theorem State.setShc_setShc (v w : Shc) : (s.setShc v).setShc w = s.setShc w := rfl
@[simp] theorem State.setShc_running (v : Shc) : (s.setShc v).running = s.running := rfl

/-! ### State.setPnl -/

@[simp] theorem State.setPnl_pins (v : Pnl) : (s.setPnl v).pins = s.pins := rfl
@[simp] theorem State.setPnl_cfl (v : Pnl) : (s.setPnl v).cfl = s.cfl := rfl
@[simp] theorem State.setPnl_psm (v : Pnl) : (s.setPnl v).psm = s.psm := rfl
@[simp] theorem State.setPnl_esd (v : Pnl) : (s.setPnl v).esd = s.esd := rfl
@[simp] theorem State.setPnl_mtp (v : Pnl) : (s.setPnl v).mtp = s.mtp := rfl
@[simp] theorem State.setPnl_spv (v : Pnl) : (s.setPnl v).spv = s.spv := rfl
@[simp] theorem State.setPnl_csq (v : Pnl) : (s.setPnl v).csq = s.csq := rfl
@[simp] theorem State.setPnl_bkd (v : Pnl) : (s.setPnl v).bkd = s.bkd := rfl
@[simp] theorem State.setPnl_syc (v : Pnl) : (s.setPnl v).syc = s.syc := rfl
@[simp] theorem State.setPnl_ptu (v : Pnl) : (s.setPnl v).ptu = s.ptu := rfl
@[simp] theorem State.setPnl_slc (v : Pnl) : (s.setPnl v).slc = s.slc := rfl
@[simp] theorem State.setPnl_tbc (v : Pnl) : (s.setPnl v).tbc = s.tbc := rfl
@[simp] theorem State.setPnl_clu (v : Pnl) : (s.setPnl v).clu = s.clu := rfl
@[simp] theorem State.setPnl_shc (v : Pnl) : (s.setPnl v).shc = s.shc := rfl
@[simp] theorem State.setPnl_pnl (v : Pnl) : (s.setPnl v).pnl = v := rfl
@[simp] theorem State.setPnl_atu (v : Pnl) : (s.setPnl v).atu = s.atu := rfl
@[simp] theorem State.setPnl_out (v : Pnl) : (s.setPnl v).out = s.out := rfl
@[simp] theorem State.setPnl_pending (v : Pnl) : (s.setPnl v).pending = s.pending := rfl
@[simp] theorem State.setPnl_setPnl (v w : Pnl) : (s.setPnl v).setPnl w = s.setPnl w := rfl
@[simp] theorem State.setPnl_running (v : Pnl) : (s.setPnl v).running = s.running := rfl

/-! ### State.setAtu -/

@[simp] theorem State.setAtu_pins (v : Atu) : (s.setAtu v).pins = s.pins := rfl
@[simp] theorem State.setAtu_cfl (v : Atu) : (s.setAtu v).cfl = s.cfl := rfl
@[simp] theorem State.setAtu_psm (v : Atu) : (s.setAtu v).psm = s.psm := rfl
@[simp] theorem State.setAtu_esd (v : Atu) : (s.setAtu v).esd = s.esd := rfl
@[simp] theorem State.setAtu_mtp (v : Atu) : (s.setAtu v).mtp = s.mtp := rfl
@[simp] theorem State.setAtu_spv (v : Atu) : (s.setAtu v).spv = s.spv := rfl
@[simp] theorem State.setAtu_csq (v : Atu) : (s.setAtu v).csq = s.csq := rfl
@[simp] theorem State.setAtu_bkd (v : Atu) : (s.setAtu v).bkd = s.bkd := rfl
@[simp] theorem State.setAtu_syc (v : Atu) : (s.setAtu v).syc = s.syc := rfl
@[simp] theorem State.setAtu_ptu (v : Atu) : (s.setAtu v).ptu = s.ptu := rfl
@[simp] theorem State.setAtu_slc (v : Atu) : (s.setAtu v).slc = s.slc := rfl
@[simp] theorem State.setAtu_tbc (v : Atu) : (s.setAtu v).tbc = s.tbc := rfl
@[simp] theorem State.setAtu_clu (v : Atu) : (s.setAtu v).clu = s.clu := rfl
@[simp] theorem State.setAtu_shc (v : Atu) : (s.setAtu v).shc = s.shc := rfl
@[simp] theorem State.setAtu_pnl (v : Atu) : (s.setAtu v).pnl = s.pnl := rfl
@[simp] theorem State.setAtu_atu (v : Atu) : (s.setAtu v).atu = v := rfl
@[simp] theorem State.setAtu_out (v : Atu) : (s.setAtu v).out = s.out := rfl
@[simp] theorem State.setAtu_pending (v : Atu) : (s.setAtu v).pending = s.pending := rfl
@[simp] theorem State.setAtu_setAtu (v w : Atu) : (s.setAtu v).setAtu w = s.setAtu w := rfl
@[simp] theorem State.setAtu_running (v : Atu) : (s.setAtu v).running = s.running := rfl

/-! ### State.setOut -/

@[simp] theorem State.setOut_pins (v : Lines) : (s.setOut v).pins = s.pins := rfl
@[simp] theorem State.setOut_cfl (v : Lines) : (s.setOut v).cfl = s.cfl := rfl
@[simp] theorem State.setOut_psm (v : Lines) : (s.setOut v).psm = s.psm := rfl
@[simp] theorem State.setOut_esd (v : Lines) : (s.setOut v).esd = s.esd := rfl
@[simp] theorem State.setOut_mtp (v : Lines) : (s.setOut v).mtp = s.mtp := rfl
@[simp] theorem State.setOut_spv (v : Lines) : (s.setOut v).spv = s.spv := rfl
@[simp] theorem State.setOut_csq (v : Lines) : (s.setOut v).csq = s.csq := rfl
@[simp] theorem State.setOut_bkd (v : Lines) : (s.setOut v).bkd = s.bkd := rfl
@[simp] theorem State.setOut_syc (v : Lines) : (s.setOut v).syc = s.syc := rfl
@[simp] theorem State.setOut_ptu (v : Lines) : (s.setOut v).ptu = s.ptu := rfl
@[simp] theorem State.setOut_slc (v : Lines) : (s.setOut v).slc = s.slc := rfl
@[simp] theorem State.setOut_tbc (v : Lines) : (s.setOut v).tbc = s.tbc := rfl
@[simp] theorem State.setOut_clu (v : Lines) : (s.setOut v).clu = s.clu := rfl
@[simp] theorem State.setOut_shc (v : Lines) : (s.setOut v).shc = s.shc := rfl
@[simp] theorem State.setOut_pnl (v : Lines) : (s.setOut v).pnl = s.pnl := rfl
@[simp] theorem State.setOut_atu (v : Lines) : (s.setOut v).atu = s.atu := rfl
@[simp] theorem State.setOut_out (v : Lines) : (s.setOut v).out = v := rfl
@[simp] theorem State.setOut_pending (v : Lines) : (s.setOut v).pending = s.pending := rfl
@[simp] theorem State.setOut_setOut (v w : Lines) : (s.setOut v).setOut w = s.setOut w := rfl
@[simp] theorem State.setOut_running (v : Lines) : (s.setOut v).running = s.running := rfl

/-! ### State.setPending -/

@[simp] theorem State.setPending_pins (v : List Instr) : (s.setPending v).pins = s.pins := rfl
@[simp] theorem State.setPending_cfl (v : List Instr) : (s.setPending v).cfl = s.cfl := rfl
@[simp] theorem State.setPending_psm (v : List Instr) : (s.setPending v).psm = s.psm := rfl
@[simp] theorem State.setPending_esd (v : List Instr) : (s.setPending v).esd = s.esd := rfl
@[simp] theorem State.setPending_mtp (v : List Instr) : (s.setPending v).mtp = s.mtp := rfl
@[simp] theorem State.setPending_spv (v : List Instr) : (s.setPending v).spv = s.spv := rfl
@[simp] theorem State.setPending_csq (v : List Instr) : (s.setPending v).csq = s.csq := rfl
@[simp] theorem State.setPending_bkd (v : List Instr) : (s.setPending v).bkd = s.bkd := rfl
@[simp] theorem State.setPending_syc (v : List Instr) : (s.setPending v).syc = s.syc := rfl
@[simp] theorem State.setPending_ptu (v : List Instr) : (s.setPending v).ptu = s.ptu := rfl
@[simp] theorem State.setPending_slc (v : List Instr) : (s.setPending v).slc = s.slc := rfl
@[simp] theorem State.setPending_tbc (v : List Instr) : (s.setPending v).tbc = s.tbc := rfl
@[simp] theorem State.setPending_clu (v : List Instr) : (s.setPending v).clu = s.clu := rfl
@[simp] theorem State.setPending_shc (v : List Instr) : (s.setPending v).shc = s.shc := rfl
@[simp] theorem State.setPending_pnl (v : List Instr) : (s.setPending v).pnl = s.pnl := rfl
@[simp] theorem State.setPending_atu (v : List Instr) : (s.setPending v).atu = s.atu := rfl
@[simp] theorem State.setPending_out (v : List Instr) : (s.setPending v).out = s.out := rfl
@[simp] theorem State.setPending_pending (v : List Instr) : (s.setPending v).pending = v := rfl
@[simp] theorem State.setPending_setPending (v w : List Instr) : (s.setPending v).setPending w = s.setPending w := rfl
@[simp] theorem State.setPending_running (v : List Instr) : (s.setPending v).running = s.running := rfl

/-! ### The output lines follow the state -/

@[simp] theorem State.refresh_pins : s.refresh.pins = s.pins := rfl
@[simp] theorem State.refresh_cfl : s.refresh.cfl = s.cfl := rfl
@[simp] theorem State.refresh_psm : s.refresh.psm = s.psm := rfl
@[simp] theorem State.refresh_esd : s.refresh.esd = s.esd := rfl
@[simp] theorem State.refresh_mtp : s.refresh.mtp = s.mtp := rfl
@[simp] theorem State.refresh_spv : s.refresh.spv = s.spv := rfl
@[simp] theorem State.refresh_csq : s.refresh.csq = s.csq := rfl
@[simp] theorem State.refresh_bkd : s.refresh.bkd = s.bkd := rfl
@[simp] theorem State.refresh_syc : s.refresh.syc = s.syc := rfl
@[simp] theorem State.refresh_ptu : s.refresh.ptu = s.ptu := rfl
@[simp] theorem State.refresh_slc : s.refresh.slc = s.slc := rfl
@[simp] theorem State.refresh_tbc : s.refresh.tbc = s.tbc := rfl
@[simp] theorem State.refresh_clu : s.refresh.clu = s.clu := rfl
@[simp] theorem State.refresh_shc : s.refresh.shc = s.shc := rfl
@[simp] theorem State.refresh_pnl : s.refresh.pnl = s.pnl := rfl
@[simp] theorem State.refresh_atu : s.refresh.atu = s.atu := rfl
@[simp] theorem State.refresh_pending : s.refresh.pending = s.pending := rfl
@[simp] theorem State.refresh_out : s.refresh.out = s.lines := rfl

/-! ### Answers -/

@[simp] theorem Out.emit_fst (o : Out) (hs : List Handoff) : (o.emit hs).1 = o.1 := rfl
@[simp] theorem Out.emit_snd (o : Out) (hs : List Handoff) : (o.emit hs).2 = o.2 ++ hs := rfl
@[simp] theorem Out.andThen_fst (o : Out) (f : State → Out) : (o.andThen f).1 = (f o.1).1 := rfl
@[simp] theorem Out.andThen_snd (o : Out) (f : State → Out) : (o.andThen f).2 = o.2 ++ (f o.1).2 := rfl

end Sys2Proof.Machine
end

