-- ==== Sys2Proof/Laws/Frames.lean ====
section
/-!
SUPPORT. Each hand-off changes only the block that takes it: the state after it is the state before with that one field
replaced (for the claim unit, whose fields of a peer entry stand in the peer table, with those two). What follows for
whole cascades stands in Laws/Cascade.
-/

namespace Sys2Proof.Machine

/-! ### One field -/

/-- `t` is `s` with nothing but the PSM changed. -/
def OnlyPsm (s t : State) : Prop := t = s.setPsm t.psm
/-- `t` is `s` with nothing but the ESD changed. -/
def OnlyEsd (s t : State) : Prop := t = s.setEsd t.esd
/-- `t` is `s` with nothing but the BKD changed. -/
def OnlyBkd (s t : State) : Prop := t = s.setBkd t.bkd
/-- `t` is `s` with nothing but the PTU changed. -/
def OnlyPtu (s t : State) : Prop := t = s.setPtu t.ptu
/-- `t` is `s` with nothing but the CSQ changed. -/
def OnlyCsq (s t : State) : Prop := t = s.setCsq t.csq
/-- `t` is `s` with nothing but the SLC changed. -/
def OnlySlc (s t : State) : Prop := t = s.setSlc t.slc
/-- `t` is `s` with nothing but the SHC changed. -/
def OnlyShc (s t : State) : Prop := t = s.setShc t.shc
/-- `t` is `s` with nothing but the claim unit and the peer table's block changed. -/
def OnlyClaims (s t : State) : Prop := t = (s.setTbc t.tbc).setClu t.clu

theorem OnlyPsm.trans {s t u : State} (h : OnlyPsm s t) (k : OnlyPsm t u) : OnlyPsm s u := by
  unfold OnlyPsm at *; rw [k, h]; rfl
theorem OnlyCsq.trans {s t u : State} (h : OnlyCsq s t) (k : OnlyCsq t u) : OnlyCsq s u := by
  unfold OnlyCsq at *; rw [k, h]; rfl
theorem OnlyBkd.trans {s t u : State} (h : OnlyBkd s t) (k : OnlyBkd t u) : OnlyBkd s u := by
  unfold OnlyBkd at *; rw [k, h]; rfl
theorem OnlyShc.trans {s t u : State} (h : OnlyShc s t) (k : OnlyShc t u) : OnlyShc s u := by
  unfold OnlyShc at *; rw [k, h]; rfl
theorem OnlySlc.trans {s t u : State} (h : OnlySlc s t) (k : OnlySlc t u) : OnlySlc s u := by
  unfold OnlySlc at *; rw [k, h]; rfl
theorem OnlyClaims.trans {s t u : State} (h : OnlyClaims s t) (k : OnlyClaims t u) : OnlyClaims s u := by
  unfold OnlyClaims at *; rw [k, h]; rfl

/-! ### Plug set monitor and earthing switch drive -/

theorem Psm.take_only (p : Psm) (r : List Handoff) (s : State) : OnlyPsm s (Psm.take p r s).1 := rfl

theorem Psm.engageRequest_only (s : State) : OnlyPsm s (Psm.engageRequest s).1 := by
  unfold Psm.engageRequest; simp only; (repeat' split) <;> rfl

theorem Psm.carryOutRelease_only (s : State) : OnlyPsm s (Psm.carryOutRelease s).1 := rfl

theorem Psm.awaitDead_only (s : State) : OnlyPsm s (Psm.awaitDead s).1 := rfl

theorem Psm.releaseRequest_only (s : State) : OnlyPsm s (Psm.releaseRequest s).1 := by
  unfold Psm.releaseRequest; (repeat' split) <;> rfl

theorem Psm.reevaluate_only (s : State) : OnlyPsm s (Psm.reevaluate s).1 := rfl

theorem Psm.onSet_only (r : ReadingSet) (s : State) : OnlyPsm s (Psm.onSet r s).1 := by
  unfold Psm.onSet; simp only; (repeat' split) <;> rfl

theorem Psm.meteringOnset_only (s : State) : OnlyPsm s (Psm.meteringOnset s).1 := rfl

theorem Esd.closeRequest_only (s : State) : OnlyEsd s (Esd.closeRequest s).1 := by
  unfold Esd.closeRequest; (repeat' split) <;> rfl

theorem Esd.openRequest_only (s : State) : OnlyEsd s (Esd.openRequest s).1 := by
  unfold Esd.openRequest; (repeat' split) <;> rfl

theorem Esd.withdraw_only (s : State) : OnlyEsd s (Esd.withdraw s).1 := by
  unfold Esd.withdraw; (repeat' split) <;> rfl

theorem Esd.due_only (s : State) (o : Out) (h : Esd.due s = some o) : OnlyEsd s o.1 := by
  unfold Esd.due at h
  simp only at h
  (repeat' split at h) <;> first | (cases h; rfl) | cases h

/-! ### Breaker drive and protection unit -/

theorem Bkd.take_only (b : Bkd) (s : State) : OnlyBkd s (Bkd.take b s).1 := rfl

theorem Bkd.retest_only (s : State) : OnlyBkd s (Bkd.retest s).1 := by
  unfold Bkd.retest; (repeat' split) <;> rfl

theorem Bkd.closeOrder_only (s : State) : OnlyBkd s (Bkd.closeOrder s).1 := by
  unfold Bkd.closeOrder; (repeat' split) <;> rfl

theorem Bkd.slot_only (held : Bool) (s : State) : OnlyBkd s (Bkd.slot held s).1 := by
  unfold Bkd.slot; simp only; (repeat' split) <;> rfl

theorem Bkd.unexpectedClose_only (s : State) : OnlyBkd s (Bkd.unexpectedClose s).1 := rfl

theorem Bkd.onSeq_only (old new : SeqState) (s : State) : OnlyBkd s (Bkd.onSeq old new s).1 := by
  unfold Bkd.onSeq; simp only
  (repeat' split) <;> first
    | rfl
    | exact OnlyBkd.trans (t := s.setBkd _) rfl (Bkd.retest_only _)

theorem Ptu.onset_only (x : Source) (s : State) : OnlyPtu s (Ptu.onset x s).1 := by
  unfold Ptu.onset; simp only; (repeat' split) <;> rfl

theorem Ptu.condition_only (x : Source) (s : State) : OnlyPtu s (Ptu.condition x s).1 := by
  unfold Ptu.condition; split
  · rfl
  · exact Ptu.onset_only x s

theorem Ptu.onBreaker_only (b : BreakerState) (s : State) : OnlyPtu s (Ptu.onBreaker b s).1 := by
  unfold Ptu.onBreaker; (repeat' split) <;> rfl

theorem Ptu.onSeq_only (old new : SeqState) (s : State) : OnlyPtu s (Ptu.onSeq old new s).1 := by
  unfold Ptu.onSeq; simp only; (repeat' split) <;> rfl

theorem Ptu.meteringOnset_only (s : State) : OnlyPtu s (Ptu.meteringOnset s).1 := rfl

theorem Ptu.onSet_only (r : ReadingSet) (s : State) : OnlyPtu s (Ptu.onSet r s).1 := rfl

theorem Ptu.acknowledge_only (l : List Source) (s : State) : OnlyPtu s (Ptu.acknowledge l s).1 := by
  unfold Ptu.acknowledge; simp only; (repeat' split) <;> rfl

/-! ### Changeover sequencer -/

theorem Csq.endProc_only (e : Ending) (c : Cause) (s : State) : OnlyCsq s (Csq.endProc e c s).1 := by
  unfold Csq.endProc; (repeat' split) <;> rfl

theorem Csq.endFallback_only (e : Ending) (c : Cause) (s : State) : OnlyCsq s (Csq.endFallback e c s).1 := rfl

theorem Csq.openProc_only (k : ProcKind) (m : Mode) (f : Option (Ending × Cause)) (s : State) :
    OnlyCsq s (Csq.openProc k m f s).1 := rfl

theorem Csq.enter_only (n : SeqState) (f : Csq → Csq) (s : State) : OnlyCsq s (Csq.enter n f s).1 := rfl

theorem Csq.enterIsolating_only (b : Bool) (s : State) : OnlyCsq s (Csq.enterIsolating b s).1 := rfl

theorem Csq.enterLockout_only (s : State) : OnlyCsq s (Csq.enterLockout s).1 := rfl

theorem Csq.enterVacant_only (s : State) : OnlyCsq s (Csq.enterVacant s).1 := rfl

theorem Csq.enterRest_only (s : State) : OnlyCsq s (Csq.enterRest s).1 := by
  unfold Csq.enterRest; split <;> rfl

theorem Csq.enterProving_only (m : Mode) (s : State) : OnlyCsq s (Csq.enterProving m s).1 := rfl

theorem Csq.enterShoreNew_only (s : State) : OnlyCsq s (Csq.enterShoreNew s).1 := rfl

theorem Csq.returnToShore_only (s : State) : OnlyCsq s (Csq.returnToShore s).1 := rfl

theorem Csq.wayOut_only (b : Bool) (o : Out) : OnlyCsq o.1 (Csq.wayOut b o).1 := by
  unfold Csq.wayOut; simp only; split
  · exact Csq.enterRest_only _
  · rfl

theorem Csq.setCsq_only (c : Csq) (s : State) : OnlyCsq s (s.setCsq c) := rfl

theorem Csq.abort_only (c : Cause) (b : Bool) (s : State) : OnlyCsq s (Csq.abort c b s).1 :=
  OnlyCsq.trans (Csq.endProc_only .aborted c s) (OnlyCsq.trans (Csq.setCsq_only _ _) (Csq.wayOut_only b (_, _)))

theorem Csq.supersede_only (c : Cause) (s : State) : OnlyCsq s (Csq.supersede c s).1 :=
  OnlyCsq.trans (Csq.endProc_only .superseded c s) (Csq.wayOut_only false _)

theorem Csq.fail_only (e : Ending) (c : Cause) (s : State) : OnlyCsq s (Csq.fail e c s).1 :=
  OnlyCsq.trans (Csq.endProc_only e c s) (Csq.enterLockout_only _)

theorem Csq.isolateWith_only (e : Ending) (c : Cause) (s : State) : OnlyCsq s (Csq.isolateWith e c s).1 := rfl

theorem Csq.connect_only (s : State) : OnlyCsq s (Csq.connect s).1 := by
  unfold Csq.connect; simp only
  split
  · split <;> rfl
  · exact OnlyCsq.trans (Csq.setCsq_only _ _) (OnlyCsq.trans (Csq.endProc_only _ _ _) (Csq.returnToShore_only _))
  · rfl

theorem Csq.release_only (s : State) : OnlyCsq s (Csq.release s).1 := by
  unfold Csq.release; simp only; split <;> first | rfl | exact Csq.supersede_only _ s

theorem Csq.hardRelease_only (s : State) : OnlyCsq s (Csq.hardRelease s).1 := by
  unfold Csq.hardRelease; simp only; split <;> first | rfl | (split <;> rfl)

theorem Csq.lockoutClear_only (s : State) : OnlyCsq s (Csq.lockoutClear s).1 := by
  unfold Csq.lockoutClear
  (repeat' split) <;> first | rfl | exact Csq.enterRest_only s

theorem Csq.transferIn_only (m : Mode) (s : State) : OnlyCsq s (Csq.transferIn m s).1 := by
  unfold Csq.transferIn; simp only; (repeat' split) <;> rfl

theorem Csq.readyMsg_only (s : State) : OnlyCsq s (Csq.readyMsg s).1 := by
  unfold Csq.readyMsg; (repeat' split) <;> rfl

theorem Csq.unloadedMsg_only (s : State) : OnlyCsq s (Csq.unloadedMsg s).1 := by
  unfold Csq.unloadedMsg; split
  · exact OnlyCsq.trans (Csq.endProc_only _ _ s) (Csq.enterShoreNew_only _)
  · rfl

theorem Csq.handbackMsg_only (m : Mode) (s : State) : OnlyCsq s (Csq.handbackMsg m s).1 := by
  unfold Csq.handbackMsg; (repeat' split) <;> rfl

theorem Csq.takenMsg_only (s : State) : OnlyCsq s (Csq.takenMsg s).1 := by
  unfold Csq.takenMsg; (repeat' split) <;> rfl

theorem Csq.abandonMsg_only (s : State) : OnlyCsq s (Csq.abandonMsg s).1 := by
  unfold Csq.abandonMsg
  split <;> first
    | rfl
    | exact Csq.supersede_only _ s
    | exact OnlyCsq.trans (Csq.endProc_only _ _ s) (Csq.returnToShore_only _)

theorem Csq.phaseExpired_only (s : State) : OnlyCsq s (Csq.phaseExpired s).1 := by
  unfold Csq.phaseExpired; simp only
  split
  · rfl
  · split <;> first
      | rfl
      | exact OnlyCsq.trans (Csq.setCsq_only _ s) (Csq.abort_only _ _ _)
      | exact OnlyCsq.trans (Csq.setCsq_only _ s) (OnlyCsq.trans (Csq.endProc_only _ _ _) (Csq.returnToShore_only _))

theorem Csq.releaseExpired_only (s : State) : OnlyCsq s (Csq.releaseExpired s).1 := by
  unfold Csq.releaseExpired; simp only; (repeat' split) <;> rfl

theorem Csq.slotExpired_only (s : State) : OnlyCsq s (Csq.slotExpired s).1 := by
  unfold Csq.slotExpired; split <;> rfl

theorem Csq.quietExpired_only (s : State) : OnlyCsq s (Csq.quietExpired s).1 := by
  unfold Csq.quietExpired; split <;> rfl

theorem Csq.watchExpired_only (s : State) : OnlyCsq s (Csq.watchExpired s).1 := by
  unfold Csq.watchExpired; (repeat' split) <;> rfl

theorem Csq.entered_only (n : SeqState) (s : State) : OnlyCsq s (Csq.entered n s).1 := by
  unfold Csq.entered; (repeat' split) <;> rfl

theorem Csq.onSwitch_only (s : State) : OnlyCsq s (Csq.onSwitch s).1 := rfl

theorem Csq.latchesReleased_only (s : State) : OnlyCsq s (Csq.latchesReleased s).1 := by
  unfold Csq.latchesReleased; simp only
  split
  · split
    · exact OnlyCsq.trans (Csq.endProc_only _ _ s) (Csq.enterRest_only _)
    · exact OnlyCsq.trans (Csq.setCsq_only _ s) (Csq.enterRest_only _)
  · rfl

theorem Csq.latchFail_only (s : State) : OnlyCsq s (Csq.latchFail s).1 := by
  unfold Csq.latchFail; split
  · exact Csq.abort_only _ _ s
  · rfl

theorem Csq.plugDisturbed_only (s : State) : OnlyCsq s (Csq.plugDisturbed s).1 := by
  unfold Csq.plugDisturbed; split
  · exact Csq.abort_only _ _ s
  · rfl

theorem Csq.slotHeld_only (s : State) : OnlyCsq s (Csq.slotHeld s).1 := by
  unfold Csq.slotHeld; (repeat' split) <;> rfl

theorem Csq.permit_only (s : State) : OnlyCsq s (Csq.permit s).1 := rfl

theorem Csq.deadConfirmed_only (s : State) : OnlyCsq s (Csq.deadConfirmed s).1 := by
  unfold Csq.deadConfirmed; split <;> rfl

theorem Csq.deadWithdrawn_only (s : State) : OnlyCsq s (Csq.deadWithdrawn s).1 := by
  unfold Csq.deadWithdrawn; split
  · exact Csq.abort_only _ _ s
  · rfl

theorem Csq.closeAccepted_only (s : State) : OnlyCsq s (Csq.closeAccepted s).1 := rfl

theorem Csq.antiPumpEnded_only (s : State) : OnlyCsq s (Csq.antiPumpEnded s).1 := rfl

theorem Csq.negative_only (s : State) : OnlyCsq s (Csq.negative s).1 := by
  unfold Csq.negative; split
  · exact Csq.abort_only _ _ s
  · rfl

theorem Csq.onBreaker_only (b : BreakerState) (s : State) : OnlyCsq s (Csq.onBreaker b s).1 := by
  unfold Csq.onBreaker; simp only
  split
  · split <;> rfl
  · split
    · exact OnlyCsq.trans (Csq.endProc_only _ _ s) (Csq.enterShoreNew_only _)
    · rfl
  · rfl
  · rfl
  · rfl

theorem Csq.closeFailed_only (s : State) : OnlyCsq s (Csq.closeFailed s).1 := by
  unfold Csq.closeFailed
  (repeat' split) <;> first
    | rfl
    | exact OnlyCsq.trans (Csq.setCsq_only _ s) (Csq.abort_only _ _ _)
    | exact Csq.fail_only _ _ s

theorem Csq.shoreLoss_only (s : State) : OnlyCsq s (Csq.shoreLoss s).1 := by
  unfold Csq.shoreLoss; split <;> first | rfl | exact Csq.abort_only _ _ s

theorem Csq.linkLoss_only (s : State) : OnlyCsq s (Csq.linkLoss s).1 := by
  unfold Csq.linkLoss; split <;> first | rfl | exact Csq.abort_only _ _ s

theorem Csq.tripped_only (x : Source) (s : State) : OnlyCsq s (Csq.tripped x s).1 := by
  unfold Csq.tripped; simp only
  split <;> first
    | rfl
    | exact OnlyCsq.trans (Csq.setCsq_only _ s) (Csq.abort_only _ _ _)
    | exact OnlyCsq.trans (Csq.setCsq_only _ s)
        (OnlyCsq.trans (Csq.endProc_only _ _ _) (Csq.enterIsolating_only _ _))

theorem Csq.trippedFatal_only (x : Source) (s : State) : OnlyCsq s (Csq.trippedFatal x s).1 := by
  unfold Csq.trippedFatal; simp only
  split <;> first | rfl | exact Csq.fail_only _ _ s

theorem Csq.notice_only (x : Source) (s : State) : OnlyCsq s (Csq.notice x s).1 := by
  unfold Csq.notice; split
  · exact Csq.trippedFatal_only x s
  · exact Csq.tripped_only x s

theorem Csq.onSet_only (r : ReadingSet) (s : State) : OnlyCsq s (Csq.onSet r s).1 := by
  unfold Csq.onSet; simp only; (repeat' split) <;> rfl

theorem Csq.popRecord_only (s : State) : OnlyCsq s (Csq.popRecord s).1 := rfl

theorem Csq.firstState_only (s : State) : OnlyCsq s (Csq.firstState s).1 := by
  unfold Csq.firstState
  (repeat' split) <;> first | rfl | exact Csq.enterRest_only s

theorem Csq.due_only (s : State) (o : Out) (h : Csq.due s = some o) : OnlyCsq s o.1 := by
  unfold Csq.due at h
  (repeat' split at h) <;> first | (cases h; rfl) | cases h

/-! ### Ship link controller, claim unit, share calculator -/

theorem Slc.change_only (n : LinkState) (s : State) : OnlySlc s (Slc.change n s).1 := rfl

theorem Slc.plug_only (m : Bool) (s : State) : OnlySlc s (Slc.plug m s).1 := by
  unfold Slc.plug; (repeat' split) <;> rfl

theorem Slc.orderMsg_only (m : ShipMsg) (s : State) : OnlySlc s (Slc.orderMsg m s).1 := rfl

theorem Slc.presented_only (s : State) : OnlySlc s (Slc.presented s).1 := by
  unfold Slc.presented; split <;> rfl

theorem Tbc.statusChanged_only (s : State) : OnlyClaims s (Tbc.statusChanged s).1 := by
  unfold Tbc.statusChanged Tbc.orderFrame; (repeat' split) <;> rfl

theorem Tbc.begin_only (s : State) : OnlyClaims s (Tbc.begin s) := by
  unfold Tbc.begin; split <;> rfl

theorem Clu.put_only (c : Clu) (s : State) : OnlyClaims s (Clu.put c s).1 := rfl

theorem Clu.commit_only (k : OwnKind) (n : Nat) (s : State) : OnlyClaims s (Clu.commit k n s).1 := rfl

theorem Clu.makeBid_only (k : OwnKind) (n : Nat) (s : State) : OnlyClaims s (Clu.makeBid k n s).1 := by
  unfold Clu.makeBid; simp only; split <;> rfl

theorem Clu.attempt_only (s : State) : OnlyClaims s (Clu.attempt s).1 := by
  unfold Clu.attempt; simp only [Out.andThen_fst]
  refine OnlyClaims.trans (Clu.put_only (s.clu.refreshFloor s.shc.fr) s) ?_
  (repeat' split) <;> first | rfl | exact Clu.makeBid_only _ _ _

theorem Clu.requestFloor_only (s : State) : OnlyClaims s (Clu.requestFloor s).1 := rfl
theorem Clu.withdrawFloor_only (s : State) : OnlyClaims s (Clu.withdrawFloor s).1 := rfl
theorem Clu.requestStep_only (s : State) : OnlyClaims s (Clu.requestStep s).1 := rfl
theorem Clu.withdrawStep_only (s : State) : OnlyClaims s (Clu.withdrawStep s).1 := rfl
theorem Clu.abandon_only (s : State) : OnlyClaims s (Clu.abandon s).1 := rfl

theorem Clu.freeStep_only (s : State) : OnlyClaims s (Clu.freeStep s).1 := by
  unfold Clu.freeStep; split <;> rfl

theorem Clu.release_only (s : State) : OnlyClaims s (Clu.release s).1 := by
  unfold Clu.release; split <;> rfl

theorem Clu.decide_only (d : Decision) (s : State) : OnlyClaims s (Clu.decide d s).1 := by
  unfold Clu.decide; (repeat' split) <;> rfl

theorem Clu.onCompleted_only (b : TxBody) (s : State) : OnlyClaims s (Clu.onCompleted b s).1 := by
  unfold Clu.onCompleted; split <;> rfl

theorem Clu.onSet_only (r : ReadingSet) (s : State) : OnlyClaims s (Clu.onSet r s).1 := by
  unfold Clu.onSet; simp only; (repeat' split) <;> rfl

theorem Shc.put_only (h : Shc) (s : State) : OnlyShc s (Shc.put h s).1 := rfl

theorem Shc.runPass_only (s : State) : OnlyShc s (Shc.runPass s).1 := by
  unfold Shc.runPass; split <;> rfl

theorem Shc.onSeq_only (old new : SeqState) (s : State) : OnlyShc s (Shc.onSeq old new s).1 := by
  unfold Shc.onSeq; simp only
  split
  · refine OnlyShc.trans (t := if new == .proving then _ else _) ?_ (Shc.runPass_only _)
    split <;> rfl
  · split <;> rfl

theorem Shc.onSet_only (r : ReadingSet) (s : State) : OnlyShc s (Shc.onSet r s).1 := by
  unfold Shc.onSet; split <;> rfl

end Sys2Proof.Machine
end

