-- ==== Sys2Proof/Laws/Cascade.lean ====
section
/-!
SUPPORT. What holds of whole cascades of hand-offs: a property that every hand-off keeps is kept by a command's answer,
the lines, the configuration, the metering port and the queue of commands are reached by no hand-off, and an answer
without hand-offs that leaves nothing due is the state itself.
-/

namespace Sys2Proof.Machine

/-! ### Induction over a cascade -/

theorem drain_keeps (P : State → Prop) (hh : ∀ x s, P s → P (handle x s).1) :
    ∀ n l s, P s → P (drain n l s) := by
  intro n
  induction n with
  | zero => intro l s h; exact hh .bkdRetest s h
  | succ n ih =>
    intro l s h
    cases l with
    | nil => exact h
    | cons x rest => exact ih _ _ (hh x s h)

theorem Out.run_keeps (P : State → Prop) (hh : ∀ x s, P s → P (handle x s).1) (o : Out) (h : P o.1) : P o.run :=
  drain_keeps P hh _ _ _ h

theorem settle_keeps (P : State → Prop) (hh : ∀ x s, P s → P (handle x s).1)
    (hd : ∀ s o, s.due = some o → P s → P o.1) : ∀ n s, P s → P (settle n s) := by
  intro n
  induction n with
  | zero => intro s h; exact h
  | succ n ih =>
    intro s h
    unfold settle
    split
    · exact h
    · next o ho => exact ih _ (Out.run_keeps P hh o (hd s o ho h))

/-- A property that hand-offs, due moves and the refresh of the output lines keep holds of a command's answer when it
holds of what the command's own block made. -/
theorem Out.conclude_keeps (P : State → Prop) (hh : ∀ x s, P s → P (handle x s).1)
    (hd : ∀ s o, s.due = some o → P s → P o.1) (hr : ∀ s, P s → P s.refresh) (o : Out) (h : P o.1) :
    P o.conclude := by
  unfold Out.conclude
  apply hr
  split
  · exact settle_keeps P hh hd _ _ (Out.run_keeps P hh o h)
  · exact Out.run_keeps P hh o h

/-! ### What no hand-off reaches -/

theorem Kept.refl (s : State) : Kept s s := ⟨rfl, rfl, rfl, rfl⟩

theorem Kept.trans {s t u : State} (h : Kept s t) (k : Kept t u) : Kept s u :=
  ⟨k.pins.trans h.pins, k.cfl.trans h.cfl, k.mtp.trans h.mtp, k.pending.trans h.pending⟩

theorem OnlyPsm.kept {s t : State} (h : OnlyPsm s t) : Kept s t := by
  unfold OnlyPsm at h; rw [h]; exact ⟨rfl, rfl, rfl, rfl⟩
theorem OnlyEsd.kept {s t : State} (h : OnlyEsd s t) : Kept s t := by
  unfold OnlyEsd at h; rw [h]; exact ⟨rfl, rfl, rfl, rfl⟩
theorem OnlyBkd.kept {s t : State} (h : OnlyBkd s t) : Kept s t := by
  unfold OnlyBkd at h; rw [h]; exact ⟨rfl, rfl, rfl, rfl⟩
theorem OnlyPtu.kept {s t : State} (h : OnlyPtu s t) : Kept s t := by
  unfold OnlyPtu at h; rw [h]; exact ⟨rfl, rfl, rfl, rfl⟩
theorem OnlyCsq.kept {s t : State} (h : OnlyCsq s t) : Kept s t := by
  unfold OnlyCsq at h; rw [h]; exact ⟨rfl, rfl, rfl, rfl⟩
theorem OnlySlc.kept {s t : State} (h : OnlySlc s t) : Kept s t := by
  unfold OnlySlc at h; rw [h]; exact ⟨rfl, rfl, rfl, rfl⟩
theorem OnlyShc.kept {s t : State} (h : OnlyShc s t) : Kept s t := by
  unfold OnlyShc at h; rw [h]; exact ⟨rfl, rfl, rfl, rfl⟩
theorem OnlyClaims.kept {s t : State} (h : OnlyClaims s t) : Kept s t := by
  unfold OnlyClaims at h; rw [h]; exact ⟨rfl, rfl, rfl, rfl⟩

/-- No hand-off reaches the lines, the configuration, the metering port or the queue of commands. -/
theorem handle_kept (x : Handoff) (s : State) : Kept s (handle x s).1 := by
  cases x with
  | psmEngage => exact (Psm.engageRequest_only s).kept
  | psmRelease => exact (Psm.releaseRequest_only s).kept
  | psmAwaitDead => exact (Psm.awaitDead_only s).kept
  | psmLive => exact (Psm.reevaluate_only s).kept
  | esdOpen => exact (Esd.openRequest_only s).kept
  | esdClose => exact (Esd.closeRequest_only s).kept
  | esdWithdraw => exact (Esd.withdraw_only s).kept
  | bkdOpen => exact (Bkd.take_only _ s).kept
  | bkdTrip => exact (Bkd.take_only _ s).kept
  | bkdRetest => exact (Bkd.retest_only s).kept
  | bkdClose => exact (Bkd.closeOrder_only s).kept
  | bkdSlot held => exact (Bkd.slot_only held s).kept
  | bkdSeq old new => exact (Bkd.onSeq_only old new s).kept
  | ptuOnset y => exact (Ptu.onset_only y s).kept
  | ptuCondition y => exact (Ptu.condition_only y s).kept
  | ptuBreaker b => exact (Ptu.onBreaker_only b s).kept
  | ptuSeq old new => exact (Ptu.onSeq_only old new s).kept
  | spvSeq new =>
    show Kept s (Spv.onSeq new s).1
    unfold Spv.onSeq; split <;> exact ⟨rfl, rfl, rfl, rfl⟩
  | sycSeq new => exact ⟨rfl, rfl, rfl, rfl⟩
  | sycReady =>
    show Kept s (Syc.onReady s).1
    unfold Syc.onReady; split <;> exact ⟨rfl, rfl, rfl, rfl⟩
  | csqNotice y => exact (Csq.notice_only y s).kept
  | csqBreaker b => exact (Csq.onBreaker_only b s).kept
  | csqCloseAccepted => exact (Csq.closeAccepted_only s).kept
  | csqCloseFailed => exact (Csq.closeFailed_only s).kept
  | csqAntiPumpEnded => exact (Csq.antiPumpEnded_only s).kept
  | csqLatchesEngaged => exact Kept.refl s
  | csqLatchFail => exact (Csq.latchFail_only s).kept
  | csqPlugDisturbed => exact (Csq.plugDisturbed_only s).kept
  | csqLatchesReleased => exact (Csq.latchesReleased_only s).kept
  | csqSwitch => exact Kept.refl s
  | csqFloorHeld => exact Kept.refl s
  | csqSlotHeld => exact (Csq.slotHeld_only s).kept
  | csqPermit => exact Kept.refl s
  | csqPermitWithdrawn => exact Kept.refl s
  | csqDeadConfirmed => exact (Csq.deadConfirmed_only s).kept
  | csqDeadWithdrawn => exact (Csq.deadWithdrawn_only s).kept
  | csqNegative => exact (Csq.negative_only s).kept
  | csqShoreLoss => exact (Csq.shoreLoss_only s).kept
  | csqLinkLoss => exact (Csq.linkLoss_only s).kept
  | csqEntered n => exact (Csq.entered_only n s).kept
  | slcPlug m => exact (Slc.plug_only m s).kept
  | slcOrder m => exact (Slc.orderMsg_only m s).kept
  | slcCeiling => exact (Slc.presented_only s).kept
  | tbcOrder b => exact ⟨rfl, rfl, rfl, rfl⟩
  | tbcStatus => exact (Tbc.statusChanged_only s).kept
  | cluFloor => exact (Clu.requestFloor_only s).kept
  | cluWithdrawFloor => exact (Clu.withdrawFloor_only s).kept
  | cluStep => exact (Clu.requestStep_only s).kept
  | cluWithdrawStep => exact (Clu.withdrawStep_only s).kept
  | cluFreeStep => exact (Clu.freeStep_only s).kept
  | cluRelease => exact (Clu.release_only s).kept
  | cluAttempt => exact (Clu.attempt_only s).kept
  | cluDecision d => exact (Clu.decide_only d s).kept
  | cluBusLost => exact (Clu.abandon_only s).kept
  | cluDuplicate => exact (Clu.abandon_only s).kept
  | cluCompleted b => exact (Clu.onCompleted_only b s).kept
  | shcSeq old new => exact (Shc.onSeq_only old new s).kept
  | shcFloor => exact ⟨rfl, rfl, rfl, rfl⟩
  | shcPass => exact (Shc.runPass_only s).kept
  | pnlRefused =>
    show Kept s (Pnl.refused s).1
    unfold Pnl.refused; split <;> exact ⟨rfl, rfl, rfl, rfl⟩
  | atuSources =>
    show Kept s (Atu.evaluate s).1
    unfold Atu.evaluate; split <;> exact ⟨rfl, rfl, rfl, rfl⟩

/-- What is due is a move of one of five kinds. -/
theorem due_cases {s : State} {o : Out} (h : s.due = some o) :
    Esd.due s = some o ∨ Psm.due s = some o ∨ Esd.ownRequest s = some o ∨ Csq.due s = some o ∨ Tbc.due s = some o := by
  unfold State.due at h
  rcases h1 : Esd.due s with _ | a
  · rcases h2 : Psm.due s with _ | b
    · rcases h3 : Esd.ownRequest s with _ | c
      · rcases h4 : Csq.due s with _ | d
        · simp [h1, h2, h3, h4] at h; exact .inr (.inr (.inr (.inr h)))
        · simp [h1, h2, h3, h4] at h; exact .inr (.inr (.inr (.inl (by rw [h]))))
      · simp [h1, h2, h3] at h; exact .inr (.inr (.inl (by rw [h])))
    · simp [h1, h2] at h; exact .inr (.inl (by rw [h]))
  · simp [h1] at h; exact .inl (by rw [h])

theorem Psm.due_eq {s : State} {o : Out} (h : Psm.due s = some o) : o = Psm.carryOutRelease s := by
  unfold Psm.due at h; split at h <;> simp_all

theorem Esd.ownRequest_eq {s : State} {o : Out} (h : Esd.ownRequest s = some o) : o = Esd.closeRequest s := by
  unfold Esd.ownRequest at h; split at h <;> simp_all

theorem Tbc.due_eq {s : State} {o : Out} (h : Tbc.due s = some o) : o = (Tbc.begin s, []) := by
  unfold Tbc.due at h; split at h <;> simp_all

theorem due_kept {s : State} {o : Out} (h : s.due = some o) : Kept s o.1 := by
  rcases due_cases h with h | h | h | h | h
  · exact (Esd.due_only s o h).kept
  · rw [Psm.due_eq h]; exact (Psm.carryOutRelease_only s).kept
  · rw [Esd.ownRequest_eq h]; exact (Esd.closeRequest_only s).kept
  · exact (Csq.due_only s o h).kept
  · rw [Tbc.due_eq h]; exact (Tbc.begin_only s).kept

theorem drain_kept (n : Nat) (l : List Handoff) (s : State) : Kept s (drain n l s) :=
  drain_keeps (Kept s) (fun x _ h => h.trans (handle_kept x _)) n l s (Kept.refl s)

theorem Out.run_kept (o : Out) : Kept o.1 o.run := drain_kept _ _ _

theorem settle_kept (n : Nat) (s : State) : Kept s (settle n s) :=
  settle_keeps (Kept s) (fun x _ h => h.trans (handle_kept x _)) (fun _ _ ho h => h.trans (due_kept ho)) n s
    (Kept.refl s)

theorem State.refresh_kept (s : State) : Kept s s.refresh := ⟨rfl, rfl, rfl, rfl⟩

/-- A command's answer leaves the lines, the configuration, the metering port and the queue as its own block made
them. -/
theorem Out.conclude_kept (o : Out) : Kept o.1 o.conclude :=
  Out.conclude_keeps (Kept o.1) (fun x _ h => h.trans (handle_kept x _)) (fun _ _ ho h => h.trans (due_kept ho))
    (fun s h => h.trans s.refresh_kept) o (Kept.refl o.1)

theorem inTurn_keeps (P : State → Prop) (hh : ∀ x s, P s → P (handle x s).1) :
    ∀ (fs : List (State → Out)), (∀ f ∈ fs, ∀ s, P s → P (f s).1) → ∀ s, P s → P (inTurn fs s) := by
  intro fs
  induction fs with
  | nil => intro _ s h; exact h
  | cons f rest ih =>
    intro hf s h
    exact ih (fun g hg => hf g (List.mem_cons_of_mem _ hg)) _
      (Out.run_keeps P hh _ (hf f (List.mem_cons_self ..) s h))

/-! ### Answers without hand-offs -/

theorem Out.run_nil (s : State) : Out.run (s, []) = s := rfl

theorem settle_calm (n : Nat) (s : State) (h : s.calm = true) : settle n s = s := by
  cases n with
  | zero => rfl
  | succ n =>
    unfold settle
    rw [State.calm, Option.isNone_iff_eq_none] at h
    rw [h]

/-- An answer without hand-offs that leaves nothing due is the state itself, with the output lines as they follow. -/
theorem Out.conclude_settled (s : State) (h : s.settled = true) : Out.conclude (s, []) = s.refresh := by
  show State.refresh (if s.running = true then settle settleBudget s else s) = s.refresh
  by_cases hr : s.running = true
  · rw [State.settled, hr] at h
    rw [if_pos hr, settle_calm _ _ (by simpa using h)]
  · rw [if_neg hr]

/-- A hand-off that is answered with none is carried out, and the rest follow. -/
theorem Out.run_cons (s : State) (x : Handoff) (rest : List Handoff) :
    Out.run (s, x :: rest) = drain 999 ((handle x s).2 ++ rest) (handle x s).1 := rfl

/-! ### What is due, read from few items -/

/-- Everything that decides whether something besides an own frame's attempt is due. -/
def State.dueView (s : State) : Psm × Esd × BreakerState × Bool × SeqState × Bool × Nat × Nat :=
  (s.psm, s.esd, s.bkd.state, s.bkd.hold, s.csq.state, s.spv.proven, s.clu.kf, s.figs.np)

/-- Nothing besides an own frame's attempt is due. -/
def State.otherwiseCalm (s : State) : Bool :=
  (Esd.due s).isNone && (Psm.due s).isNone && (Esd.ownRequest s).isNone && (Csq.due s).isNone

theorem State.calm_eq (s : State) : s.calm = (s.otherwiseCalm && !s.tbc.attemptDue) := by
  unfold State.calm State.due State.otherwiseCalm Tbc.due
  rcases Esd.due s with _ | a <;> rcases Psm.due s with _ | b <;> rcases Esd.ownRequest s with _ | c <;>
    rcases Csq.due s with _ | d <;> simp
  cases s.tbc.attemptDue <;> simp

theorem isNone_ite {α : Type} (c : Prop) [Decidable c] (a : α) :
    (if c then some a else none).isNone = !decide c := by
  by_cases h : c <;> simp [h]

theorem otherwiseCalm_congr {s t : State} (h : s.dueView = t.dueView) : s.otherwiseCalm = t.otherwiseCalm := by
  simp only [State.dueView, Prod.mk.injEq] at h
  obtain ⟨h1, h2, h3, h4, h5, h6, h7, h8⟩ := h
  have hs : s.setHeld = t.setHeld := by simp only [State.setHeld, h1, h8]
  have hc : s.closeInterlock = t.closeInterlock := by simp only [State.closeInterlock, h1, h3, h4]
  have ht : s.travelInterlock = t.travelInterlock := by simp only [State.travelInterlock, h2, hs, hc]
  have hr : s.releaseInterlock = t.releaseInterlock := by simp only [State.releaseInterlock, h1, h2, h4]
  have hl : s.latchesFree = t.latchesFree := by simp only [State.latchesFree, h1, h8]
  have e1 : (Esd.due s).isNone = (Esd.due t).isNone := by
    unfold Esd.due; simp only [h2, hs, hc, ht]; (repeat' split) <;> rfl
  have e2 : (Psm.due s).isNone = (Psm.due t).isNone := by
    unfold Psm.due; simp only [h1, hr]; split <;> rfl
  have e3 : (Esd.ownRequest s).isNone = (Esd.ownRequest t).isNone := by
    unfold Esd.ownRequest; simp only [h2, h5]; split <;> rfl
  have e4 : (Csq.due s).isNone = (Csq.due t).isNone := by
    unfold Csq.due; simp only [h1, h2, h3, h5, h6, h7, State.cableAtRest, hl]
    cases t.csq.state <;> simp [isNone_ite]
    by_cases h : t.psm.setState = SetState.complete <;> simp [h]
  simp only [State.otherwiseCalm, e1, e2, e3, e4]

/-- A state that differs from a settled one in nothing that decides what is due is settled. -/
theorem settled_congr {s t : State} (h : s.dueView = t.dueView) (ha : s.tbc.attemptDue = t.tbc.attemptDue)
    (hr : s.running = t.running) (hs : s.settled = true) : t.settled = true := by
  unfold State.settled at *
  rw [← hr, State.calm_eq, ← otherwiseCalm_congr h, ← ha, ← State.calm_eq]; exact hs

theorem offeredFrame_isSome {q : List TxFrame} (h : q.isEmpty = false) : ∃ f, offeredFrame q = some f := by
  cases q with
  | nil => simp at h
  | cons f rest => unfold offeredFrame; (repeat' split) <;> exact ⟨_, rfl⟩

/-- Once an attempt has begun, none is due. -/
theorem Tbc.begin_attemptDue {s : State} (h : s.tbc.attemptDue = true) : (Tbc.begin s).tbc.attemptDue = false := by
  have hq : s.tbc.queue.isEmpty = false := by
    simp only [Tbc.attemptDue, Bool.and_eq_true, Bool.not_eq_true'] at h; exact h.2
  obtain ⟨f, hf⟩ := offeredFrame_isSome hq
  simp [Tbc.begin, hf, State.setTbc, Tbc.attemptDue]

theorem State.begun_only (s : State) : OnlyClaims s s.begun := by
  unfold State.begun; split
  · exact Tbc.begin_only s
  · rfl

theorem Tbc.begin_dueView (s : State) : (Tbc.begin s).dueView = s.dueView := by
  unfold Tbc.begin; split <;> rfl

/-- An answer without hand-offs that leaves at most an attempt due is the state with that attempt begun. -/
theorem Out.conclude_begun (s : State) (h : s.running = true → s.otherwiseCalm = true) :
    Out.conclude (s, []) = s.begun.refresh := by
  show State.refresh (if s.running = true then settle settleBudget s else s) = s.begun.refresh
  by_cases hr : s.running = true
  case neg => rw [if_neg hr, State.begun]; simp [hr]
  replace h := h hr
  rw [if_pos hr]
  by_cases ha : s.tbc.attemptDue = true
  · have hb : (Tbc.begin s).calm = true := by
      rw [State.calm_eq, Tbc.begin_attemptDue ha, otherwiseCalm_congr (Tbc.begin_dueView s), h]; rfl
    have hd : s.due = some (Tbc.begin s, []) := by
      simp only [State.otherwiseCalm, Bool.and_eq_true, Option.isNone_iff_eq_none] at h
      obtain ⟨⟨⟨h1, h2⟩, h3⟩, h4⟩ := h
      simp [State.due, h1, h2, h3, h4, Tbc.due, ha]
    have he : s.begun = Tbc.begin s := by simp [State.begun, ha, hr]
    show State.refresh (settle (49 + 1) s) = _
    unfold settle
    rw [hd]
    show State.refresh (settle 49 (Tbc.begin s)) = _
    rw [he, settle_calm _ _ hb]
  · have he : s.begun = s := by simp [State.begun, ha]
    rw [settle_calm _ _ (by rw [State.calm_eq, h]; simpa using ha), he]

end Sys2Proof.Machine
end

