-- ==== Sys2Proof/Laws/Operations.lean ====
section
/-!
SUPPORT. What each operation that several blocks share can do, said once: fields of bytes, the peer table, the two
transmit queues, the taking of new values by the plug set monitor and the breaker drive, onsets and state changes.
-/

namespace Sys2Proof.Machine

/-! ### Bytes -/

@[simp] theorem beBytes_length (w n : Nat) : (beBytes w n).length = w := by
  induction w generalizing n with
  | zero => rfl
  | succ w ih => simp [beBytes, ih]

theorem beNat_append_one (l : List Byte) (b : Byte) : beNat (l ++ [b]) = beNat l * 256 + b.toNat := by
  simp [beNat]

/-- R183: the bytes of a number spell it, within their width. -/
theorem beNat_beBytes (w n : Nat) : beNat (beBytes w n) = n % 256 ^ w := by
  induction w generalizing n with
  | zero => simp [beBytes, beNat, Nat.mod_one]
  | succ w ih =>
    have h : n % 256 ^ (w + 1) = n % 256 + 256 * (n / 256 % 256 ^ w) := by
      rw [Nat.pow_succ, Nat.mul_comm (256 ^ w) 256, Nat.mod_mul]
    rw [beBytes, beNat_append_one, ih, BitVec.toNat_ofNat, h]
    omega

/-- A field that stands between two other parts of the data. -/
theorem fieldNat_between (a b c : List Byte) : fieldNat (a ++ (b ++ c)) a.length b.length = beNat b := by
  simp [fieldNat]

/-! ### The peer table -/

theorem findPeer_setPeer_self (p : Peer) (l : List Peer) : findPeer p.berth (setPeer p l) = some p := by
  induction l with
  | nil => simp [setPeer, findPeer]
  | cons q rest ih =>
    unfold setPeer
    split
    · simp [findPeer]
    · split
      · simp [findPeer]
      · rename_i h _
        have hq : (q.berth == p.berth) = false := by simpa using h
        simp only [findPeer, List.find?_cons, hq] at ih ⊢
        exact ih

theorem findPeer_setPeer_other (p : Peer) (n : Nat) (h : n ≠ p.berth) (l : List Peer) :
    findPeer n (setPeer p l) = findPeer n l := by
  induction l with
  | nil => simp [setPeer, findPeer, Ne.symm h]
  | cons q rest ih =>
    unfold setPeer
    split
    · rename_i hq
      simp [findPeer, hq, Ne.symm h]
    · split
      · simp [findPeer, Ne.symm h]
      · simp only [findPeer, List.find?_cons] at ih ⊢
        split <;> simp_all

/-- A change of one entry that keeps its berth number. -/
theorem findPeer_updatePeer (b n : Nat) (f : Peer → Peer) (hf : ∀ p, (f p).berth = p.berth) (l : List Peer) :
    findPeer n (updatePeer b f l) = if n = b then (findPeer n l).map f else findPeer n l := by
  induction l with
  | nil => simp [updatePeer, findPeer]
  | cons q rest ih =>
    have hb : (if q.berth == b then f q else q).berth = q.berth := by split <;> simp [hf]
    simp only [findPeer, updatePeer, List.map_cons] at ih ⊢
    by_cases hq : q.berth = n
    · rw [List.find?_cons_of_pos (by simp only [hb]; simpa using hq),
        List.find?_cons_of_pos (by simpa using hq)]
      by_cases hn : n = b <;> simp_all
    · rw [List.find?_cons_of_neg (by simp only [hb]; simpa using hq),
        List.find?_cons_of_neg (by simpa using hq), ih]

theorem findPeer_erasePeer_self (n : Nat) (l : List Peer) : findPeer n (erasePeer n l) = none := by
  simp [findPeer, erasePeer]

theorem findPeer_erasePeer_other (n b : Nat) (h : n ≠ b) (l : List Peer) :
    findPeer n (erasePeer b l) = findPeer n l := by
  induction l with
  | nil => rfl
  | cons q rest ih =>
    simp only [findPeer, erasePeer] at ih ⊢
    by_cases hq : q.berth = b
    · have hqn : q.berth ≠ n := by omega
      rw [List.filter_cons_of_neg (by simp [hq]), ih, List.find?_cons_of_neg (by simpa using hqn)]
    · rw [List.filter_cons_of_pos (by simpa using hq), List.find?_cons, List.find?_cons, ih]

/-! ### The transmit queues -/

/-- R129, R132, R138: an order leaves the bus controller as it is, or puts one frame at the end of a queue that has
room. -/
theorem Tbc.order_cases (b : TxBody) (t : Tbc) :
    t.order b = t ∨
      (t.order b = { t with queue := t.queue ++ [⟨b, some 1000⟩] } ∧ t.can.sends = true ∧ t.queue.length < 24 ∧
        (b.isStatus = true → t.queue.any (·.body.isStatus) = false)) := by
  unfold Tbc.order
  split
  · exact .inl rfl
  · split
    · exact .inl rfl
    · split
      · exact .inl rfl
      · split
        · refine .inr ⟨rfl, by simp_all, ‹_›, fun h => ?_⟩
          rename_i _ hs _
          simp only [h, Bool.true_and] at hs
          exact Bool.eq_false_iff.mpr hs
        · exact .inl rfl

/-- R132: a changed figure orders a STATUS, or has the attempt of one order it at its completion; the interface and the
peer table stay as they are. -/
theorem Tbc.statusChanged_cases (s : State) :
    Tbc.statusChanged s = (s.setTbc (s.tbc.order .status), []) ∨
      ∃ a, s.tbc.attempt = some a ∧ a.body.isStatus = true ∧
        Tbc.statusChanged s = (s.setTbc { s.tbc with attempt := some { a with again := true } }, []) := by
  unfold Tbc.statusChanged Tbc.orderFrame
  split
  · split
    · exact .inr ⟨_, ‹_›, ‹_›, rfl⟩
    · exact .inl rfl
  · exact .inl rfl

/-- R128, R129, R139: what a completion of the attempt `a` makes of the queue: its frame goes, every timer is at 1 s again,
and at most one STATUS is new at its end. -/
theorem Tbc.completed_queue (a : Attempt) (i : Nat) (t : Tbc) :
    (t.completed a i).queue = (dropKind a.body.kind t.queue).map (fun f => { f with timer := some 1000 }) ∨
      ((t.completed a i).queue =
          (dropKind a.body.kind t.queue).map (fun f => { f with timer := some 1000 }) ++ [⟨.status, some 1000⟩] ∧
        (a.again = true ∨ t.busLost = true)) := by
  unfold Tbc.completed
  simp only
  split
  · rename_i h
    rcases Tbc.order_cases .status (Tbc.judged _) with e | ⟨e, -⟩
    · rw [e]; exact .inl rfl
    · rw [e]; exact .inr ⟨rfl, by simpa using h⟩
  · exact .inl rfl

/-- R114: the queue of messages never passes 8. -/
theorem putMsg_length_le (m : ShipMsg) (q : List ShipMsg) (h : q.length ≤ 8) : (putMsg m q).length ≤ 8 := by
  unfold putMsg
  split
  · simpa using h
  · split
    · exact h
    · split
      · simp only [List.length_append, List.length_singleton]; omega
      · exact h

theorem Slc.begin_length_le (c : Slc) : c.begin.queue.length ≤ c.queue.length := by
  unfold Slc.begin
  split
  · rename_i h; simp [h]
  · exact Nat.le_refl _

theorem Slc.order_length_le (m : ShipMsg) (c : Slc) (h : c.queue.length ≤ 8) : (c.order m).queue.length ≤ 8 := by
  unfold Slc.order
  split
  · exact Nat.le_trans (Slc.begin_length_le _) (putMsg_length_le m c.queue h)
  · exact h

/-! ### Reception -/

theorem BusKind.ofCode_eq_some (n : Nat) (k : BusKind) : BusKind.ofCode n = some k ↔ n = k.code := by
  constructor
  · intro h
    unfold BusKind.ofCode at h
    split at h <;> first | (cases h; rfl) | cases h
  · rintro rfl; cases k <;> rfl

/-- R130: a frame passes exactly when its identifier gives the kind and the sender, and the six tests hold. -/
theorem reception_passed (own : Nat) (ident : BitVec 11) (d : List Byte) (kind : BusKind) (b : Nat) :
    reception own ident d = .passed kind b ↔
      ident.toNat / 32 = kind.code ∧ ident.toNat % 32 = b ∧ b ≤ 16 ∧ b ≠ own ∧ kind.sentBy b = true ∧
        kind.dataLength = some d.length := by
  rw [← BusKind.ofCode_eq_some]
  unfold reception
  simp only
  constructor
  · intro h
    split at h; · cases h
    split at h; · cases h
    split at h; · cases h
    split at h; · cases h
    split at h; · cases h
    split at h; · cases h
    cases h
    simp_all
  · rintro ⟨h, rfl, h1, h2, h3, h4⟩
    rw [if_neg (by omega), if_neg h2, h]
    have hr : (kind == .reply) = false := by cases kind <;> first | rfl | simp [BusKind.dataLength] at h4
    simp [h3, h4, hr]

/-! ### New values -/

@[simp] theorem Psm.take_psm (p : Psm) (r : List Handoff) (s : State) :
    (Psm.take p r s).1.psm =
      { p with
        setState := p.derivedSet s.figs.np
        engage := if p.derivedSet s.figs.np == .complete then p.engage else none
        lossWhileLive := p.lossWhileLive && p.live } := rfl

@[simp] theorem Bkd.take_bkd (b : Bkd) (s : State) : (Bkd.take b s).1.bkd = b := rfl

/-- R73, R74: what an open order can do: nothing in OPEN, OPENING and FAILED; an open from CLOSED or CLOSING. -/
theorem Bkd.order_cases (b : Bkd) :
    (b.order = b ∧ b.state ≠ .closing ∧ b.state ≠ .closed) ∨
      (b.order = b.opensClosing ∧ (b.state = .closing ∨ b.state = .closed ∧ b.closePulse.isSome = true)) ∨
      (b.order = b.opens ∧ b.state = .closed ∧ b.closePulse = none) := by
  unfold Bkd.order
  split <;> simp_all
  cases b.closePulse <;> simp

theorem Bkd.order_hold (b : Bkd) (h : b.state = .closing ∨ b.state = .closed) : b.order.hold = false := by
  obtain ⟨-, h1, h2⟩ | ⟨e, -⟩ | ⟨e, -⟩ := Bkd.order_cases b
  · exact absurd h (by simp [h1, h2])
  · rw [e]; rfl
  · rw [e]; rfl

/-- R70: what a re-test can do: nothing while HOLD is off or its conditions hold, an interlock open otherwise. -/
theorem Bkd.retest_cases (s : State) :
    (Bkd.retest s = (s, []) ∧ (s.bkd.hold = true → s.holdConditions = true)) ∨
      (Bkd.retest s = Bkd.take s.bkd.order s ∧ s.bkd.hold = true ∧ s.holdConditions = false) := by
  unfold Bkd.retest
  cases h : s.bkd.hold <;> cases k : s.holdConditions <;> simp

/-- R103, R105: what the accumulator can be after a set. -/
theorem accumulate_cases (acc s k : Nat) :
    (levelTwo k < acc ∧ accumulate acc s k = levelTwo k) ∨
      (acc ≤ levelTwo k ∧ accumulate acc s k = min (acc + s - k) (levelTwo k)) := by
  unfold accumulate; split <;> omega

/-- R94, R95, R96: what an onset can do. -/
theorem Ptu.onset_cases (x : Source) (s : State) :
    (x ∈ s.ptu.latched ∧ Ptu.onset x s = (s, [])) ∨
      (x ∉ s.ptu.latched ∧ (Ptu.onset x s).2 = [.bkdRetest, .bkdTrip, .csqNotice x, .atuSources] ∧
        (Ptu.onset x s).1.ptu.latched = s.ptu.latched ++ [x] ∧
        (s.ptu.latched = [] → (Ptu.onset x s).1.ptu.firstOut = some x ∧ (Ptu.onset x s).1.ptu.age = 0) ∧
        (s.ptu.latched ≠ [] → (Ptu.onset x s).1.ptu.firstOut = s.ptu.firstOut)) := by
  by_cases h : x ∈ s.ptu.latched
  · exact .inl ⟨h, by simp [Ptu.onset, h]⟩
  · refine .inr ⟨h, ?_⟩
    by_cases he : s.ptu.latched = [] <;> simp [Ptu.onset, h, he]

/-- A source latched already stays latched through an onset. -/
theorem Ptu.onset_mem (x y : Source) (s : State) (h : y ∈ s.ptu.latched) : y ∈ (Ptu.onset x s).1.ptu.latched := by
  obtain ⟨-, e⟩ | ⟨-, -, e, -⟩ := Ptu.onset_cases x s
  · rw [e]; exact h
  · rw [e]; exact List.mem_append_left _ h

@[simp] theorem Csq.enter_state (new : SeqState) (f : Csq → Csq) (s : State) :
    (Csq.enter new f s).1.csq = f (s.csq.moveTo new) := rfl
@[simp] theorem Csq.enter_handoffs (new : SeqState) (f : Csq → Csq) (s : State) :
    (Csq.enter new f s).2 = stateChanged s.csq.state new := rfl

/-- R36, R37: the log keeps at most 16 records. -/
theorem appendRecord_length_le (l : List Record) (r : Record) (h : l.length ≤ 16) :
    (appendRecord l r).length ≤ 16 := by
  unfold appendRecord
  split <;> simp <;> omega

end Sys2Proof.Machine
end

