-- ==== Sys2Proof/Laws/PerInstr.lean ====
section
/-!
SUPPORT. The family Shape: what holds of every command as syntax. A command that stands for a ship message is well formed
exactly when its payload has the length of its kind (section 12.4); a command that carries a bus frame is well formed
exactly when the frame has at most 8 data bytes, is of the kind of its row or of a kind without a row, and, where the row
is one item of a QUERY or one command of a CONTROL and the data have the length of the row's kind, carries the row's code
(section 12.3); no command that stands for a bus frame is of the start, a ship message or a request; a ship request is a
ship message and none of the start.
-/

namespace Sys2Proof.Laws.Shape

open Sys2Proof Sys2Proof.Machine

/-- What the family says of a command. -/
def Statement (i : Instr) : Prop :=
  (∀ kind payload, shipFrameOf i = some (kind, payload) →
    (i.wellFormed = true ↔ shipKindLength kind = some payload.length)) ∧
  (∀ f, frameOf i = some f → isFrame i = true ∧ ∃ kind, rowKind i = some kind ∧
    (i.wellFormed = true ↔ f.data.length ≤ 8 ∧
      (f.ident.toNat / 32 = kind.code ∨ f.ident.toNat / 32 ∉ rowKinds) ∧
      ∀ code, stationCode i = some code → kind.dataLength = some f.data.length →
        f.data[1]? = some (BitVec.ofNat 8 code))) ∧
  (isFrame i = true →
    isRequest i = false ∧ isStart i = false ∧ shipFrameOf i = none ∧ (frameOf i = none → i.wellFormed = true)) ∧
  (isRequest i = true → isStart i = false ∧ (shipFrameOf i).isSome = true)

/-- A command that stands for no ship message, no bus frame and no request. -/
theorem of_none {i : Instr} (h : shipFrameOf i = none) (ht : frameOf i = none) (hf : isFrame i = false)
    (hr : isRequest i = false) : Statement i := by
  simp [Statement, h, ht, hf, hr]

/-- A command that stands for a bus frame and carries none. -/
theorem of_bare {i : Instr} (h : shipFrameOf i = none) (ht : frameOf i = none) (hr : isRequest i = false)
    (hs : isStart i = false) (hw : i.wellFormed = true) : Statement i := by
  simp [Statement, h, ht, hr, hs, hw]

/-- A command that carries a bus frame, with its code in byte 1 where it is an item or a command. -/
theorem of_frame {i : Instr} {f : BusFrame} {kind : BusKind} {len : Nat} (ht : frameOf i = some f)
    (hk : rowKind i = some kind) (hl : kind.dataLength = some len) (h : shipFrameOf i = none)
    (hr : isRequest i = false) (hf : isFrame i = true) (hs : isStart i = false)
    (hw : i.wellFormed = (frameOk kind.code f.ident f.data && (stationCode i).all fun c => stationOk len c f.data)) :
    Statement i := by
  refine ⟨by simp [h], fun g hg => ?_, by simp [hr, hs, h, ht], by simp [hr]⟩
  rw [ht] at hg
  cases hg
  refine ⟨hf, kind, hk, ?_⟩
  rw [hw, hl]
  cases hc : stationCode i with
  | none => simp [frameOk]
  | some c =>
    by_cases hd : f.data.length = len
    · subst hd; simp [frameOk, stationOk, and_assoc]
    · simp [frameOk, stationOk, hd, Ne.symm hd]

/-- A command that stands for a ship message. -/
theorem of_ship {i : Instr} {kind : Nat} {payload : List Byte} (h : shipFrameOf i = some (kind, payload))
    (ht : frameOf i = none) (hf : isFrame i = false) (hs : isStart i = false)
    (hw : i.wellFormed = true ↔ shipKindLength kind = some payload.length) : Statement i := by
  refine ⟨fun k p hk => ?_, by simp [ht], by simp [hf], by simp [hs, h]⟩
  rw [h] at hk
  cases hk
  exact hw

theorem powerOn (straps : BitVec 5) : Statement (.powerOn straps) := of_none rfl rfl rfl rfl
theorem resetAsserted : Statement .resetAsserted := of_none rfl rfl rfl rfl
theorem resetReleased (straps : BitVec 5) : Statement (.resetReleased straps) := of_none rfl rfl rfl rfl
theorem configLoadEnd (image : List Byte) : Statement (.configLoadEnd image) := of_none rfl rfl rfl rfl
theorem censusTimerExpiry : Statement .censusTimerExpiry := of_none rfl rfl rfl rfl
theorem pilotMade (plug : PlugNo) : Statement (.pilotMade plug) := of_none rfl rfl rfl rfl
theorem pilotOpened (plug : PlugNo) : Statement (.pilotOpened plug) := of_none rfl rfl rfl rfl
theorem validationTimerExpiry (plug : PlugNo) : Statement (.validationTimerExpiry plug) := of_none rfl rfl rfl rfl
theorem earthchkChange (passing : Bool) : Statement (.earthchkChange passing) := of_none rfl rfl rfl rfl
theorem latchFeedbackChange (plug : PlugNo) (engaged : Bool) : Statement (.latchFeedbackChange plug engaged) :=
  of_none rfl rfl rfl rfl
theorem engageSupervisionExpiry : Statement .engageSupervisionExpiry := of_none rfl rfl rfl rfl
theorem deadTimerExpiry : Statement .deadTimerExpiry := of_none rfl rfl rfl rfl
theorem eswPositionChange (posc poso : Bool) : Statement (.eswPositionChange posc poso) := of_none rfl rfl rfl rfl
theorem eswTravelTimerExpiry : Statement .eswTravelTimerExpiry := of_none rfl rfl rfl rfl
theorem eswSettleTimerExpiry : Statement .eswSettleTimerExpiry := of_none rfl rfl rfl rfl
theorem meteringDelivery (bits : List Bool) : Statement (.meteringDelivery bits) := of_none rfl rfl rfl rfl
theorem checkEvent : Statement .checkEvent := of_none rfl rfl rfl rfl
theorem phaseTimerExpiry : Statement .phaseTimerExpiry := of_none rfl rfl rfl rfl
theorem releaseDelayExpiry : Statement .releaseDelayExpiry := of_none rfl rfl rfl rfl
theorem slotTimerExpiry : Statement .slotTimerExpiry := of_none rfl rfl rfl rfl
theorem quietTimerExpiry : Statement .quietTimerExpiry := of_none rfl rfl rfl rfl
theorem isolatingWatchExpiry : Statement .isolatingWatchExpiry := of_none rfl rfl rfl rfl
theorem connectPress : Statement .connectPress := of_none rfl rfl rfl rfl
theorem releasePress : Statement .releasePress := of_none rfl rfl rfl rfl
theorem ackPress : Statement .ackPress := of_none rfl rfl rfl rfl
theorem hardRelease : Statement .hardRelease := of_none rfl rfl rfl rfl
theorem lockoutClear : Statement .lockoutClear := of_none rfl rfl rfl rfl
theorem buttonInputChange (button : Button) (pressed : Bool) : Statement (.buttonInputChange button pressed) :=
  of_none rfl rfl rfl rfl
theorem buttonLetgoExpiry (button : Button) : Statement (.buttonLetgoExpiry button) := of_none rfl rfl rfl rfl
theorem refusalFlashEnd : Statement .refusalFlashEnd := of_none rfl rfl rfl rfl
theorem patternClockTick : Statement .patternClockTick := of_none rfl rfl rfl rfl
theorem auxContactChange (auxc auxo : Bool) : Statement (.auxContactChange auxc auxo) := of_none rfl rfl rfl rfl
theorem closePulseEnd : Statement .closePulseEnd := of_none rfl rfl rfl rfl
theorem tripPulseEnd : Statement .tripPulseEnd := of_none rfl rfl rfl rfl
theorem closeSupervisionExpiry : Statement .closeSupervisionExpiry := of_none rfl rfl rfl rfl
theorem openSupervisionExpiry : Statement .openSupervisionExpiry := of_none rfl rfl rfl rfl
theorem contactWatchExpiry : Statement .contactWatchExpiry := of_none rfl rfl rfl rfl
theorem antiPumpExpiry : Statement .antiPumpExpiry := of_none rfl rfl rfl rfl
theorem estopChange (isOpen : Bool) : Statement (.estopChange isOpen) := of_none rfl rfl rfl rfl
theorem transferIn (mode : Byte) : Statement (.transferIn mode) :=
  of_ship rfl rfl rfl rfl (by simp [Instr.wellFormed, shipKindLength])
theorem ready : Statement .ready := of_ship rfl rfl rfl rfl (by simp [Instr.wellFormed, shipKindLength])
theorem unloaded : Statement .unloaded := of_ship rfl rfl rfl rfl (by simp [Instr.wellFormed, shipKindLength])
theorem handback (mode : Byte) : Statement (.handback mode) :=
  of_ship rfl rfl rfl rfl (by simp [Instr.wellFormed, shipKindLength])
theorem taken : Statement .taken := of_ship rfl rfl rfl rfl (by simp [Instr.wellFormed, shipKindLength])
theorem abandon : Statement .abandon := of_ship rfl rfl rfl rfl (by simp [Instr.wellFormed, shipKindLength])
theorem shipHello (payload : List Byte) : Statement (.shipHello payload) :=
  of_ship rfl rfl rfl rfl (by simp [Instr.wellFormed, shipKindLength]; exact eq_comm)
theorem shipStatus (payload : List Byte) : Statement (.shipStatus payload) :=
  of_ship rfl rfl rfl rfl (by simp [Instr.wellFormed, shipKindLength]; exact eq_comm)
theorem shipFrameDiscard : Statement .shipFrameDiscard := of_none rfl rfl rfl rfl
theorem shipByteGapTimeout : Statement .shipByteGapTimeout := of_none rfl rfl rfl rfl
theorem shipTransmitEnd : Statement .shipTransmitEnd := of_none rfl rfl rfl rfl
theorem silenceTimerExpiry : Statement .silenceTimerExpiry := of_none rfl rfl rfl rfl
theorem helloTimerExpiry : Statement .helloTimerExpiry := of_none rfl rfl rfl rfl
theorem ceilingTimerExpiry : Statement .ceilingTimerExpiry := of_none rfl rfl rfl rfl
theorem linkHoldExpiry : Statement .linkHoldExpiry := of_none rfl rfl rfl rfl
theorem status (ident : BitVec 11) (data : List Byte) : Statement (.status ident data) :=
  of_frame rfl rfl rfl rfl rfl rfl rfl (Bool.and_true _).symm
theorem bid (ident : BitVec 11) (data : List Byte) : Statement (.bid ident data) :=
  of_frame rfl rfl rfl rfl rfl rfl rfl (Bool.and_true _).symm
theorem object (ident : BitVec 11) (data : List Byte) : Statement (.object ident data) :=
  of_frame rfl rfl rfl rfl rfl rfl rfl (Bool.and_true _).symm
theorem stepBid (ident : BitVec 11) (data : List Byte) : Statement (.stepBid ident data) :=
  of_frame rfl rfl rfl rfl rfl rfl rfl (Bool.and_true _).symm
theorem stepFree (ident : BitVec 11) (data : List Byte) : Statement (.stepFree ident data) :=
  of_frame rfl rfl rfl rfl rfl rfl rfl (Bool.and_true _).symm
theorem ackTrip (ident : BitVec 11) (data : List Byte) : Statement (.ackTrip ident data) :=
  of_frame rfl rfl rfl rfl rfl rfl rfl (Bool.and_true _).symm
theorem querySummary (ident : BitVec 11) (data : List Byte) : Statement (.querySummary ident data) :=
  of_frame rfl rfl rfl rfl rfl rfl rfl rfl
theorem queryPeer (ident : BitVec 11) (data : List Byte) : Statement (.queryPeer ident data) :=
  of_frame rfl rfl rfl rfl rfl rfl rfl rfl
theorem clearAttention (ident : BitVec 11) (data : List Byte) : Statement (.clearAttention ident data) :=
  of_frame rfl rfl rfl rfl rfl rfl rfl rfl
theorem forgetPeer (ident : BitVec 11) (data : List Byte) : Statement (.forgetPeer ident data) :=
  of_frame rfl rfl rfl rfl rfl rfl rfl rfl
theorem queryTrip (frame : BusFrame) : Statement (.queryTrip frame) := of_frame rfl rfl rfl rfl rfl rfl rfl rfl
theorem queryResult (frame : BusFrame) : Statement (.queryResult frame) := of_frame rfl rfl rfl rfl rfl rfl rfl rfl
theorem ownNumberFrame : Statement .ownNumberFrame := of_bare rfl rfl rfl rfl rfl
theorem frameDisregarded : Statement .frameDisregarded := of_bare rfl rfl rfl rfl rfl
theorem ownFrameCompletion (ident : BitVec 11) : Statement (.ownFrameCompletion ident) := of_none rfl rfl rfl rfl
theorem statusPeriodExpiry : Statement .statusPeriodExpiry := of_none rfl rfl rfl rfl
theorem queueTimerExpiry : Statement .queueTimerExpiry := of_none rfl rfl rfl rfl
theorem canError (error : BusError) : Statement (.canError error) := of_none rfl rfl rfl rfl
theorem busOffRecovery : Statement .busOffRecovery := of_none rfl rfl rfl rfl
theorem peerStale (berth : Nat) : Statement (.peerStale berth) := of_none rfl rfl rfl rfl
theorem peerBidWindowEnd (berth : Nat) : Statement (.peerBidWindowEnd berth) := of_none rfl rfl rfl rfl
theorem peerStepBidWindowEnd (berth : Nat) : Statement (.peerStepBidWindowEnd berth) := of_none rfl rfl rfl rfl
theorem peerStepHoldExpiry (berth : Nat) : Statement (.peerStepHoldExpiry berth) := of_none rfl rfl rfl rfl
theorem ownWindowExpiry : Statement .ownWindowExpiry := of_none rfl rfl rfl rfl
theorem backoffExpiry : Statement .backoffExpiry := of_none rfl rfl rfl rfl
theorem graceTimerExpiry : Statement .graceTimerExpiry := of_none rfl rfl rfl rfl
theorem topupTimerExpiry : Statement .topupTimerExpiry := of_none rfl rfl rfl rfl
theorem budgetWaitOnset : Statement .budgetWaitOnset := of_none rfl rfl rfl rfl
theorem passTimerExpiry : Statement .passTimerExpiry := of_none rfl rfl rfl rfl
theorem attentionPulseEnd : Statement .attentionPulseEnd := of_none rfl rfl rfl rfl
theorem shipLinkByteReceived (byte : Byte) (framingError : Bool) : Statement (.shipLinkByteReceived byte framingError) :=
  of_none rfl rfl rfl rfl
theorem refusalFlashToggle : Statement .refusalFlashToggle := of_none rfl rfl rfl rfl

end Sys2Proof.Laws.Shape
end

