-- ==== Sys2Proof/Tests/Slice0.lean ====
section
/-!
SUPPORT. The tests. First the smoke test of well-formedness, then single steps and single computations whose expected
results are the manual's own tables and worked cases, then one witness for each statement with hypotheses: concrete
states and operands that meet the hypotheses of each of its clauses.
-/

open Sys2Proof Sys2Proof.Machine

namespace Sys2Proof.Tests

/-! ### Well-formedness -/

theorem test_wellFormed_image : (Instr.configLoadEnd (List.replicate 63 0)).wellFormed = false := by decide
theorem test_wellFormed_hello : (Instr.shipHello (List.replicate 23 0)).wellFormed = false := by decide
theorem test_wellFormed_shipStatus : (Instr.shipStatus (List.replicate 13 0)).wellFormed = false := by decide
theorem test_wellFormed_stale : (Instr.peerStale 0).wellFormed = false := by decide
theorem test_wellFormed_bidWindow : (Instr.peerBidWindowEnd 17).wellFormed = false := by decide
theorem test_wellFormed_stepWindow : (Instr.peerStepBidWindowEnd 0).wellFormed = false := by decide
theorem test_wellFormed_stepHold : (Instr.peerStepHoldExpiry 17).wellFormed = false := by decide
theorem test_wellFormed_query : (Instr.querySummary 384#11 [5#8, 2#8, 0#8]).wellFormed = false := by decide
theorem test_wellFormed_control : (Instr.forgetPeer 480#11 [5#8, 1#8, 0#8, 0#8]).wellFormed = false := by decide
theorem test_wellFormed_kind : (Instr.status 129#11 []).wellFormed = false ∧ (Instr.ackTrip 384#11 []).wellFormed = false ∧
    (Instr.object 64#11 (List.replicate 9 0)).wellFormed = false := by decide
theorem test_wellFormed_accepts :
    (Instr.configLoadEnd (List.replicate 64 0)).wellFormed = true ∧ (Instr.peerStale 1).wellFormed = true ∧
      (Instr.peerStale 16).wellFormed = true ∧ (Instr.status 287#11 []).wellFormed = true ∧
      (Instr.status 417#11 []).wellFormed = true ∧ (Instr.querySummary 384#11 [5#8, 1#8, 0#8]).wellFormed = true ∧
      (Instr.queryTrip ⟨384#11, []⟩).wellFormed = true := by decide

/-- No row of the table gives bits. -/
theorem test_decode_nothing : decodeTableWord 0 0 = none ∧ State.reset.withFetchWord 0 0 = State.reset := ⟨rfl, rfl⟩

/-! ### Small states -/

/-- The state a command leaves. -/
def left (o : Host.Outcome State Fault Refusal) : State :=
  match o with
  | .next t => t
  | .fault _ => State.reset
  | .refused _ => State.reset

/-- A running part at berth 5 with one plug, Avail 5700 and R 3000. -/
def base : State :=
  { State.reset with
    cfl :=
      { Cfl.atReset with
        stage := .running, berth := 5, figs := { Figures.atReset with b := 6000, m := 300, r := 3000 } } }

/-- The same in another sequencer state. -/
def inState (state : SeqState) : State := base.setCsq { base.csq with state := state }

/-- A plug MADE, its latch confirmed. -/
def heldPlug : Plug := ⟨.made, none, true, true⟩

/-- `base` with the set held, in the sequencer state given. -/
def held (state : SeqState) : State :=
  (inState state).setPsm
    { Psm.atReset with
      plugs := { Psm.atReset.plugs with p1 := heldPlug }, driven := true, earthPassing := true, setState := .complete }

/-- The breaker at rest OPEN, the cable dead, the switch CLOSED, the latches free: nothing to wait for. -/
def rested (state : SeqState) : State :=
  (((inState state).setBkd { Bkd.atReset with state := .opened, reading := .opened, tripPulse := none }).setEsd
    { Esd.atReset with state := .closed }).setPsm
    { Psm.atReset with live := false, dead1s := true, earthPassing := true }

/-- `base` with the link UP, both modes offered, in the sequencer state given. -/
def linked (state : SeqState) : State :=
  (inState state).setSlc { Slc.atReset with link := .up, offersClosed := true, offersOpen := true }

/-- A procedure in progress. -/
def withProc (p : Procedure) (s : State) : State := s.setCsq { s.csq with proc := some p }

/-- A TRANSFER-IN in CLOSED mode, begun at 0. -/
def transfer : Procedure := ⟨.transferIn, .closed, 0, none⟩

/-- A HANDBACK of a mode, begun at 0. -/
def handback (mode : Mode) : Procedure := ⟨.handback, mode, 0, none⟩

/-- `base` on the bus. -/
def onBus : State := base.setTbc { Tbc.atReset with can := .errorActive }

/-- `base` on the bus with one entry. -/
def withPeer (p : Peer) : State := onBus.setTbc { onBus.tbc with peers := [p] }

/-- A LIVE entry of berth 3 that claims nothing. -/
def peer : Peer := { Peer.unheard 3 none with live := true, age := 0 }

/-- A reading set at the exact limits of every condition of R85, with the default figures. -/
def goodSet : ReadingSet :=
  { shoreV := ⟨1000, 1000, 1000⟩, shipV := ⟨1050, 950, 1000⟩, shoreF := 50000, shipF := 50200, theta := 43
    current := ⟨0, 0, 0⟩, residual := 0, s := 0, p := 0, shoreSeq := .positive, shipSeq := .positive, serial := 1
    shoreVClamp := false, shipVClamp := false, shoreFClamp := false, shipFClamp := false }

/-- A delivery with nothing on the lines and the serial `n`. -/
def quietDelivery (n : Nat) : List Bool := (List.replicate 35 0 ++ beBytes 1 n).flatMap bitsOfByte

/-- The first 62 bytes of an image: format code, Np, the allowed modes, N and the flags as given, the rest in range. -/
def imageBody (format np modes n flags : Nat) : List Byte :=
  beBytes 1 format ++ beBytes 1 np ++ beBytes 4 50000 ++ beBytes 2 6600 ++ beBytes 2 6000 ++ beBytes 2 300 ++
    beBytes 2 3000 ++ beBytes 1 modes ++ beBytes 1 30 ++ beBytes 2 300 ++ beBytes 2 n ++ beBytes 1 80 ++
    beBytes 1 50 ++ beBytes 2 200 ++ beBytes 2 100 ++ beBytes 2 300 ++ beBytes 2 2500 ++ beBytes 2 100 ++
    beBytes 1 10 ++ beBytes 1 flags ++ beBytes 2 511 ++ List.replicate 26 0

/-- An image with its CRC. -/
def image (format np modes n flags : Nat) : List Byte :=
  imageBody format np modes n flags ++ crcBytes (imageBody format np modes n flags)

/-- Loading, at the berth of these straps. -/
def loading (berth : Nat) : State := State.reset.setCfl { Cfl.atReset with berth := berth }

/-! ### Start -/

/-- R67, R180: power-on reads the straps and waits for the load. -/
theorem test_powerOn : (left (exec (.powerOn 3#5) base)).cfl = { Cfl.atReset with berth := 3 } := by decide

/-- R67, R80: an external reset keeps the result log and UPSTREAM-TRIP, and pulses TRIP. -/
theorem test_reset :
    let t := left (exec .resetAsserted (base.setBkd { base.bkd with upstream := true, hold := true }))
    t.bkd.upstream = true ∧ t.bkd.hold = false ∧ t.out.trip = true ∧ t.csq.mask = true := by decide

/-- R180, section 12.5: a load that succeeds, and one with N at 49, one below its range. -/
theorem test_load :
    (left (exec (.configLoadEnd (image 1 2 3 50 0)) (loading 3))).cfl.stage = .running ∧
      (left (exec (.configLoadEnd (image 1 2 3 49 0)) (loading 3))).cfl.stage = .configFault := by decide +kernel

/-- R182, row 3 and row 2: HOOKED with the set COMPLETE at rest, ISOLATING with LIVE set. -/
theorem test_census :
    (left (exec .censusTimerExpiry
      (((rested .start).setPsm { (rested .start).psm with setState := .complete }).setCfl
        { base.cfl with census := some 0 }))).csq.state = .hooked ∧
    (left (exec .censusTimerExpiry (base.setCfl { base.cfl with census := some 0 }))).csq.state = .isolating := by
  decide +kernel

/-! ### Plug set and earthing switch -/

/-- R1: validation lasts 2 s. -/
theorem test_pilotMade : (left (exec (.pilotMade .p1) base)).psm.plugs.p1.validation = some 2000 := by decide

/-- R8: a pilot lost on a live cable latches PILOT-LOSS. -/
theorem test_pilotLoss : (left (exec (.pilotOpened .p1) (held .vacant))).ptu.latched = [.pilotLoss] := by decide +kernel

/-- R3: some plug MADE and the earth check FAILING is PARTIAL. -/
theorem test_setState :
    (left (exec (.earthchkChange false) (held .vacant))).psm.setState = .partSet ∧
      Psm.atReset.derivedSet 1 = .empty := by decide +kernel

/-- R11: both contacts made is FAULT. -/
theorem test_switchFault : (left (exec (.eswPositionChange true true) base)).esd.state = .fault := by decide +kernel

/-! ### Metering, proving, synchronism -/

/-- R24: the second silent check is METERING-LOST. -/
theorem test_meteringLost :
    (left (exec .checkEvent (base.setMtp { Mtp.atReset with armed := true, miss := 1, check := some 0 }))).ptu.latched =
      [.meteringLost] := by decide +kernel

/-- R19: a repeated serial is discarded. -/
theorem test_repeatedSerial :
    (left (exec (.meteringDelivery (quietDelivery 1)) (base.setMtp { Mtp.atReset with last := some goodSet }))).mtp.last =
      some goodSet := by decide +kernel

/-- R183: the first bit of a byte is its most significant. -/
theorem test_bitOrder : bytesOfBits [true, false, false, false, false, false, false, true, true] = [0x81#8] := by decide

/-- Section 5.10.1: the four worked predictions. -/
theorem test_predictions :
    predictAngle (-50) 150 80 = -7 ∧ predictAngle 20 (-150) 80 = -23 ∧ predictAngle 1790 300 200 = -1594 ∧
      predictAngle (-1750) (-200) 150 = 1742 := by decide

/-- R85: limits are inclusive; one more step of the angle is outside. -/
theorem test_verdicts :
    goodSet.verdictAt base.figs = .none ∧ { goodSet with theta := 44 }.verdictAt base.figs = .angle ∧
      { goodSet with shipF := 50201 }.verdictAt base.figs = .slip := by decide

/-! ### Sequencer and panel -/

/-- R43: the 600 s of PROVING end unproven in SHORE-UNSTABLE. -/
theorem test_provingLimit :
    ((left (exec .phaseTimerExpiry (withProc transfer
      ((inState .proving).setCsq { (inState .proving).csq with phase := some 0 })))).csq.log.map (·.cause)) =
      [.shoreUnstable] := by decide +kernel

/-- R40: a CONNECT press with the link UP enters PROVING. -/
theorem test_connect :
    (left (exec .connectPress ((linked .hooked).setPnl
      { Pnl.atReset with connect := { Validator.atReset with state := .settling, settle := some 0 } }))).csq.mode =
      .closed := by decide +kernel

/-- R172: a press settles for 50 ms. -/
theorem test_button :
    (left (exec (.buttonInputChange .ack true) base)).pnl.ack.settle = some 50 := by decide

/-- R50: the release delay starts at its figure. -/
theorem test_release :
    (left (exec .releasePress ((linked .shore).setPnl
      { Pnl.atReset with release := { Validator.atReset with state := .settling, settle := some 0 } }))).csq.releaseDelay =
      some 300000 := by decide +kernel

/-! ### Breaker and protection -/

/-- R68: the table of contact readings. -/
theorem test_contacts :
    contactReading true false = .closed ∧ contactReading false true = .opened ∧
      contactReading false false = .between ∧ contactReading true true = .invalid := by decide

/-- R79: contacts that leave OPEN unordered are an unexpected close. -/
theorem test_unexpectedClose :
    (left (exec (.auxContactChange true false) (rested .vacant))).ptu.latched = [.unexpectedClose] := by decide +kernel

/-- R75: an open not confirmed in time asserts UPSTREAM-TRIP. -/
theorem test_openSupervision :
    (left (exec .openSupervisionExpiry (base.setBkd { Bkd.atReset with openSup := some 0 }))).out.upstream = true := by
  decide +kernel

/-- R75: a reading that shows OPEN at the limit is no failure to open. -/
theorem test_openSupervision_shown :
    (left (exec .openSupervisionExpiry
      (base.setBkd { Bkd.atReset with openSup := some 0, reading := .opened }))).bkd.state = .opened := by decide +kernel

/-- Section 6.9.1: sets 50 and 2500 of a steady overload; section 6.9.2: a lower K caps the accumulator. -/
theorem test_overload :
    ({ Ptu.atReset with acc := 6370 }.detectOverload { goodSet with s := 1430 } 1300 .closed).2 = [.slcOrder .over] ∧
      ({ Ptu.atReset with acc := 324870, overArmed := false }.detectOverload { goodSet with s := 1430 } 1300
        .closed).2 = [.ptuOnset .overload] ∧
      ({ Ptu.atReset with acc := 260000, overArmed := false }.detectOverload { goodSet with s := 950 } 1000
        .closed).1.acc = 250000 := by decide

/-- R97: the chain found open latches E-STOP. -/
theorem test_estop : (left (exec (.estopChange true) base)).ptu.latched = [.eStop] := by decide +kernel

/-- R103: the levels shown are those of the last set, not of the present claim. -/
theorem test_levels :
    let s := (base.setPtu { Ptu.atReset with levelK := 1300 }).setClu { Clu.atReset with kf := 800 }
    fieldNat (s.summary 1) 10 4 = 6500 ∧ fieldNat (s.summary 1) 14 4 = 325000 := by decide

/-- R61, R74: a RELEASE in PARALLEL within the CLOSE pulse orders the open while CLOSE is asserted, then frees the slot. -/
theorem test_releaseInClosePulse :
    let s := (withProc transfer (held .parallel)).setPnl
      { Pnl.atReset with release := { Validator.atReset with state := .settling, settle := some 0 } }
    let s := (s.setEsd { Esd.atReset with state := .opened }).setBkd
      { Bkd.atReset with
        state := .closed, reading := .closed, tripPulse := none, hold := true, slotHeld := true, closePulse := some 40 }
    let t := left (exec .releasePress (s.setClu { Clu.atReset with stepHeld := true }))
    t.bkd.antiPump = some 10000 ∧ t.bkd.closePulse = none ∧ t.csq.state = .isolating := by decide +kernel

/-! ### Ship link -/

/-- The SHIP-HELLO of section 7.9.1, with a voltage in V. -/
def hello (voltage : Nat) : List Byte :=
  beBytes 2 77 ++ beBytes 4 50000 ++ beBytes 4 voltage ++ beBytes 4 725 ++ beBytes 4 2000 ++ beBytes 1 3 ++
    List.replicate 5 0

/-- `base` at Vn 6600 with the link in the state given. -/
def linkAt (l : LinkState) : State :=
  (base.setCfl { base.cfl with figs := { base.figs with vn := 6600 } }).setSlc { Slc.atReset with link := l }

/-- Section 7.9.1: 6900 V is compatible, one volt and a half per cent more is not (R116). -/
theorem test_shipHello :
    (left (exec (.shipHello (hello 6900)) (linkAt .waiting))).slc.link = .up ∧
      (left (exec (.shipHello (hello 6900)) (linkAt .waiting))).shc.fr = 800 ∧
      (left (exec (.shipHello (hello 6931)) (linkAt .waiting))).slc.link = .incompatible := by decide +kernel

/-- R41: with the mask set a TRANSFER-IN is refused with MASKED. -/
theorem test_transferIn_masked :
    (left (exec (.transferIn 1#8) (linked .hooked))).slc.sending = some (.refused .masked) := by decide +kernel

/-- R52: a HANDBACK in SHORE enters HANDBACK for 180 s. -/
theorem test_handback : (left (exec (.handback 1#8) (linked .shore))).csq.phase = some 180000 := by decide +kernel

/-- R112: a length byte above 24 is discarded at once. -/
theorem test_longFrame :
    (left (exec (.shipLinkByteReceived 25#8 false)
      ((linkAt .up).setSlc { (linkAt .up).slc with rx := .inFrame [1#8], gap := some 10 }))).slc.rx = .hunting := by
  decide +kernel

/-! ### Terminal bus and claims -/

/-- Section 12.3: the fields of a STATUS: code 8, START and STEP-HELD, K 1400, floor 600, Cd 1800, Uq 12. -/
def statusOfOne : List Byte :=
  [0x08#8, 0x04#8, 0x08#8, 0xC0#8, 0x3C#8, 0x0B#8, 0x40#8, 0x0C#8]

/-- R134: the STATUS above filed from berth 1. -/
theorem test_status :
    (findPeer 1 (left (exec (.status 257#11 statusOfOne) onBus)).tbc.peers).map
      (fun p => (p.code, p.stepFlag, p.k, p.floor, p.cd, p.uq)) = some (some 8, true, 1400, 600, 1800, 12) := by
  decide +kernel

/-- R129, R130: BID from 1 is 129, OBJECT from 5 is 69; a sender of 17, an undefined kind, a QUERY from a berth, a BID from
berth 0, a REPLY and a BID of three bytes are disregarded, and the own number comes before the kind. -/
theorem test_reception :
    reception 5 129#11 [1#8, 0#8, 130#8, 2#8] = .passed .bid 1 ∧ reception 3 69#11 [1#8, 2#8, 1#8] = .passed .object 5 ∧
      reception 5 273#11 statusOfOne = .disregarded ∧ reception 5 97#11 [] = .disregarded ∧
      reception 5 385#11 [5#8, 1#8, 0#8] = .disregarded ∧ reception 5 128#11 [1#8, 0#8, 130#8, 2#8] = .disregarded ∧
      reception 5 417#11 [1#8, 128#8] = .disregarded ∧ reception 5 129#11 [1#8, 0#8, 130#8] = .disregarded ∧
      reception 5 384#11 [5#8, 1#8, 0#8] = .passed .query 0 ∧ reception 5 101#11 [] = .ownNumber := by decide

/-- R128: the 32nd transmit error in a row is BUS-OFF. -/
theorem test_busOff :
    (left (exec (.canError .transmit) (onBus.setTbc { onBus.tbc with txErr := 248, can := .errorPassive }))).tbc.can =
      .busOff := by decide +kernel

/-- R131: a frame with the own number sets DUPLICATE. -/
theorem test_duplicate : (left (exec .ownNumberFrame onBus)).tbc.duplicate = true := by decide +kernel

/-- R129: an OBJECT goes before a STATUS ordered earlier. -/
theorem test_offered :
    offeredFrame [⟨.status, none⟩, ⟨.object 1 2 .noRoom, none⟩] = some ⟨.object 1 2 .noRoom, none⟩ := by decide

/-- R132: a change presented while the STATUS is in its attempt is sent by a new STATUS after it. -/
theorem test_changedStatus :
    let s := onBus.setTbc
      { onBus.tbc with queue := [⟨.status, some 900⟩], attempt := some ⟨.status, statusOfOne, false⟩ }
    let t := left (exec (.ownFrameCompletion 261#11) (handle .tbcStatus s).1)
    t.tbc.lastSent = some ⟨261, statusOfOne⟩ ∧ t.tbc.queue = [⟨.status, some 1000⟩] ∧
      t.tbc.attempt = some ⟨.status, t.statusData, false⟩ := by decide +kernel

/-- R184: the segment counts of the five kinds of item. -/
theorem test_segments :
    (segments 1 (base.summary 0)).length = 4 ∧ (segments 1 (base.summary 2)).length = 2 ∧
      (segments 2 base.tripItem).length = 2 ∧ (segments 4 (peer.item 0)).length = 3 ∧
      segments 3 [] = [[3#8, 128#8]] := by decide

/-- Section 10.9: berth 3 with its three peers; the STALE berth 2 counts with its whole claim. -/
def allotment : State :=
  let p1 : Peer := { Peer.unheard 1 none with live := true, k := 1400, floor := 600, cd := 1800, uq := 12 }
  let p2 : Peer := { Peer.unheard 2 none with k := 1200, floor := 700 }
  let p5 : Peer := { Peer.unheard 5 none with live := true, floorPending := true, floor := 500, cd := 1000, uq := 20 }
  let s := (linked .shore).setTbc { Tbc.atReset with can := .errorActive, peers := [p1, p2, p5] }
  let s := s.setSlc { s.slc with c := 2000, e := some 1500, t0 := some 300, t0Receipt := some 0 }
  (s.setClu { Clu.atReset with kf := 800 }).setCfl { s.cfl with berth := 3 }

/-- Section 10.9: u 300, Uq 15, Cd 2000, pool 2600, Tc 1600, RAISE to 1300, and the bid is made. -/
theorem test_allotment :
    let h := allotment.sharePass
    (h.u, h.uq, h.cd, h.pool, h.tc, h.decision) = (300, 15, 2000, 2600, 1600, .raise 1300) ∧
      ((handle .cluAttempt (handle (.cluDecision h.decision) allotment).1).1.clu.bid.map (·.k)) = some 1300 := by
  decide +kernel

/-- R165: entry to PROVING publishes the charge demand over the pending floor: C 2500, R 3000, Fr 800. -/
theorem test_provingDemand :
    let l := ((linked .hooked).setPsm (held .hooked).psm).setShc { Shc.atReset with fr := 800 }
    let s := (l.setSlc { l.slc with c := 2500, e := some 1500 }).setPnl
      { Pnl.atReset with connect := { Validator.atReset with state := .settling, settle := some 0 } }
    (left (exec .connectPress s)).shc.cd = 2200 := by decide +kernel

/-- Section 10.10: the limit cases of the floor request, the rate and the urgency code. -/
theorem test_limits :
    floorRequest 0 3000 = 10 ∧ floorRequest 20000 3000 = 3000 ∧ floorRequest 725 3000 = 800 ∧
      requiredRate (some 1) (some 1439) = 1 ∧ requiredRate (some 500) (some 0) = 65535 ∧
      requiredRate (some 20000) (some 1) = 65535 ∧ urgency 65535 = 255 ∧ urgency 301 = 16 ∧ urgency 900 = 45 := by
  decide

/-- Section 9.9.2: the fifth low draw in a row ends the lowering with Kc 200. -/
theorem test_lowering :
    (Clu.onSet { goodSet with s := 930 }
      (base.setClu { Clu.atReset with kf := 800, kc := 500, pendingCeiling := some 1000, grace := some 9780, lowRun := 4 })).1.clu.kc =
      200 := by decide

/-- R138: an expired queue timer is BUS-LOST. -/
theorem test_busLost :
    (left (exec .queueTimerExpiry (onBus.setTbc { onBus.tbc with queue := [⟨.status, some 0⟩] }))).tbc.busLost =
      true := by decide +kernel

/-! ### Witnesses: hypotheses that are met

Each theorem below is named for its statement and meets the hypotheses of each clause in turn. -/

theorem witness_StepRunsTheFrontCommand : (base.setPending [.ready]).pending = [.ready] := rfl

theorem witness_EmptyQueueLetsTimePass :
    base.pending = [] ∧ base.expired = [] ∧
      (base.setMtp { base.mtp with check := some 0 }).expired = [.checkEvent] := by decide

theorem witness_PowerOnAndResetValues : base.resetAsserted.cfl.stage = .reset := rfl

theorem witness_ConfigFaultOnABadLoad :
    let fault := base.setCfl { base.cfl with stage := .configFault }
    (loading 3).cfl.stage = .loading ∧
      (List.replicate 64 0).drop 62 ≠ crcBytes ((List.replicate 64 (0 : Byte)).take 62) ∧ (loading 0).own = 0 ∧
      16 < (loading 17).own ∧ (Figures.ofImage (image 1 5 3 50 0)).inRange = false ∧
      fieldNat (image 2 2 3 50 0) 0 1 ≠ 1 ∧ fieldNat (image 1 2 0 50 0) 14 1 = 0 ∧
      3 < fieldNat (image 1 2 4 50 0) 14 1 ∧ exec .refusalFlashEnd fault = .next (left (exec .refusalFlashEnd fault)) ∧
      (left (exec .refusalFlashEnd fault)).cfl.stage = .configFault := by
  refine ⟨rfl, ?_, rfl, by decide, ?_, ?_, ?_, ?_, rfl, rfl⟩ <;> decide +kernel

theorem witness_GoodLoadStartsTheCensus :
    (loading 16).cfl.stage = .loading ∧ (loading 16).loadSucceeds (image 1 4 3 1000 0) = true ∧
      (loading 1).loadSucceeds (image 1 1 1 50 1) = true ∧
      ((loading 16).loaded (Figures.ofImage (image 1 4 3 1000 0))).1.figs.solitary = false ∧
      ((loading 1).loaded (Figures.ofImage (image 1 1 1 50 1))).1.figs.solitary = true ∧
      ((loading 1).setCfl { (loading 1).cfl with external := true }).cfl.external = true ∧
      (base.setCsq { base.csq with marker := some ⟨.transferIn, .closed, 3600⟩ }).csq.marker =
        some ⟨.transferIn, .closed, 3600⟩ ∧
      ((loading 1).setPins { Pins.atReset with eStop := true }).pins.eStop = true := by decide +kernel

/-- A census about to end at a berth with no converter: the switch CLOSED, the latches FREE, LIVE set. -/
def noConverter : State :=
  let s := rested .start
  (s.setPsm { s.psm with live := true, dead1s := false }).setCfl { s.cfl with census := some 0 }

/-- R182: such a berth enters ISOLATING and waits there under the CABLE-LIVE watch. -/
theorem test_census_no_converter :
    let t := left (exec .censusTimerExpiry noConverter)
    t.csq.state = .isolating ∧ t.csq.isoWatch = some 300000 := by decide

theorem witness_CensusTakesTheFirstWorkingState :
    noConverter.cfl.census.isSome = true ∧ noConverter.csq.state = .start ∧ noConverter.firstWorking = .isolating ∧
      noConverter.psm.live = true ∧ noConverter.esd.state = .closed ∧ noConverter.latchesFree = true ∧
      (rested .start).firstWorking = .vacant ∧ (handle .psmAwaitDead noConverter).1.psm.releasePending = true ∧
      (handle .psmAwaitDead noConverter).1.releaseInterlock = false := by decide

theorem witness_FiguresAndConfigFaultStand :
    isStart .ready = false ∧ exec .ready base = .next (left (exec .ready base)) ∧
      (base.setCfl { base.cfl with stage := .configFault }).cfl.stage = .configFault ∧
      exec .ready (base.setCfl { base.cfl with stage := .configFault }) =
        .next (left (exec .ready (base.setCfl { base.cfl with stage := .configFault }))) := ⟨rfl, rfl, rfl, rfl⟩

theorem witness_PilotsAreValidated :
    let made := (inState .proving).setPsm { (held .proving).psm with live := false, dead1s := true }
    base.running = true ∧ inPlugSet base.figs.np .p1 = true ∧ inPlugSet 4 .p4 = true ∧ base.settled = true ∧
      (base.psm.plugs.get .p1).pilot = .opened ∧ (held .vacant).settled = true ∧
      ((held .vacant).psm.plugs.get .p1).pilot = .made ∧ (held .vacant).psm.live = true ∧
      (held .vacant).psm.lossWhileLive = false ∧ (made.psm.plugs.get .p1).pilot = .made ∧ made.psm.live = false ∧
      made.csq.state.disturbable = true ∧
      ((left (exec (.pilotMade .p1) base)).psm.plugs.get .p1).pilot = .validating := by decide

theorem witness_PlugSetFollowsItsInputs :
    let waiting := base.setPsm
      { base.psm with
        plugs := { base.psm.plugs with p1 := ⟨.made, none, true, false⟩ }, engage := some 1000, deadTimer := some 0 }
    let dead := (held .proving).setPsm { (held .proving).psm with live := false, dead1s := true }
    ((left (exec (.pilotMade .p1) base)).psm.plugs.get .p1).validation.isSome = true ∧ base.running = true ∧
      inPlugSet waiting.figs.np .p1 = true ∧ (waiting.psm.plugs.get .p1).engaged = true ∧
      (waiting.psm.plugs.get .p1).confirmed = false ∧ waiting.psm.engage.isSome = true ∧
      ({ waiting.psm.plugs with p1 := heldPlug } : Four Plug).allIn 1 (fun q => q.confirmed) = true ∧
      waiting.psm.deadTimer.isSome = true ∧ (held .vacant).running = true ∧
      ((held .vacant).psm.plugs.get .p1).engaged = true ∧ ((held .vacant).psm.plugs.get .p1).confirmed = true ∧
      (held .vacant).psm.live = true ∧ (held .vacant).psm.lossWhileLive = false ∧
      (dead.psm.plugs.get .p1).engaged = true ∧ (dead.psm.plugs.get .p1).confirmed = true ∧ dead.psm.live = false ∧
      dead.csq.state.disturbable = true ∧ (held .vacant).csq.state.disturbable = false ∧ base.settled = true ∧
      (base.psm.plugs.get .p1).engaged = false := by decide

theorem witness_SetStateFromPilotsAndEarthCheck :
    base.SetDerived ∧ exec .ready base = .next (left (exec .ready base)) := ⟨fun _ => rfl, rfl⟩

theorem witness_EarthingSwitchMovesAndFails :
    let toOpen := base.setEsd { Esd.atReset with dir := .toOpen, driving := true, travel := some 0 }
    let toClosed := base.setEsd { Esd.atReset with dir := .toClosed, driving := true, travel := some 15000 }
    let at_ (state : EswState) : State := base.setEsd { Esd.atReset with state := state }
    let failed (posc poso : Bool) : State := ((at_ .fault).setEsd { (at_ .fault).esd with settle := some 0 }).setPins
      { Pins.atReset with posc := posc, poso := poso }
    base.running = true ∧ toOpen.esd.state = .moving ∧ toOpen.esd.dir ≠ .toClosed ∧ toClosed.esd.state = .moving ∧
      toClosed.esd.dir ≠ .toOpen ∧ toOpen.esd.state ≠ .fault ∧ (at_ .opened).esd.state = .opened ∧
      (at_ .closed).esd.state = .closed ∧ (at_ .fault).settled = true ∧ toOpen.esd.travel.isSome = true ∧
      (failed true false).esd.state = .fault ∧ (failed true false).esd.settle.isSome = true ∧
      (failed true false).pins.posc ≠ (failed true false).pins.poso ∧
      (failed false true).pins.posc ≠ (failed false true).pins.poso := by decide

theorem witness_SwitchDrivenOnlyUnderItsInterlock :
    let closed := (held .proving).setEsd { Esd.atReset with state := .closed }
    let opened := (rested .isolating).setEsd { Esd.atReset with state := .opened }
    let waits (s : State) (r : EswRequest) : State := s.setEsd { s.esd with request := r }
    let travels (s : State) (dir : EswDir) : State := s.setEsd { s.esd with state := .moving, dir := dir }
    let drives (s : State) : State := s.setEsd { s.esd with driving := true }
    closed.esd.driving = false ∧ (handle .esdOpen closed).1.esd.driving = true ∧ opened.esd.driving = false ∧
      (handle .esdClose opened).1.esd.driving = true ∧ closed.setHeld = true ∧ opened.closeInterlock = true ∧
      (waits opened .closing).esd.request = .closing ∧ (waits closed .opening).esd.request = .opening ∧
      (waits (travels opened .none) .closing).esd.dir = .none ∧
      (travels opened .toClosed).esd.driving ≠ opened.closeInterlock ∧
      (travels closed .toOpen).esd.driving ≠ closed.setHeld ∧
      ((Esd.due (travels closed .toOpen)).map fun o => o.1.esd.driving) = some true ∧
      (drives (travels (rested .isolating) .toClosed)).due = none ∧
      (drives (travels (held .shore) .toOpen)).due = none := by decide

theorem witness_DeliveryAcceptedOrDiscarded :
    let faulty := (List.replicate 34 0 ++ [16#8, 2#8]).flatMap bitsOfByte
    let recovering := base.setMtp { Mtp.atReset with lost := true, recovery := 49 }
    base.running = true ∧ base.settled = true ∧ (List.replicate 287 false).length ≠ 288 ∧ faulty.length = 288 ∧
      converterFault (bytesOfBits faulty) = true ∧
      (base.setMtp { Mtp.atReset with last := some goodSet }).mtp.last.any
        (fun r => r.serial == fieldNat (bytesOfBits (quietDelivery 1)) 35 1) = true ∧
      (quietDelivery 1).length = 288 ∧ converterFault (bytesOfBits (quietDelivery 1)) = false ∧
      base.mtp.last.any (fun r => r.serial == fieldNat (bytesOfBits (quietDelivery 1)) 35 1) = false ∧
      base.mtp.lost = false ∧ recovering.mtp.lost = true ∧ 50 ≤ recovering.mtp.recovery + 1 ∧
      (base.setMtp { Mtp.atReset with lost := true, recovery := 48 }).mtp.recovery + 1 < 50 := by decide +kernel

theorem witness_TwoSilentChecksLoseMetering :
    let m (armed latch : Bool) (miss : Nat) : State :=
      base.setMtp { Mtp.atReset with armed := armed, latch := latch, miss := miss, check := some 0 }
    (m true false 1).mtp.check.isSome = true ∧ (m false false 0).settled = true ∧ (m false false 0).mtp.armed = false ∧
      (m true true 1).settled = true ∧ (m true true 1).mtp.latch = true ∧ (m true false 0).settled = true ∧
      (m true false 0).mtp.latch = false ∧ (m true false 0).mtp.lost = false ∧ (m true false 0).mtp.miss = 0 ∧
      (m true false 1).mtp.miss ≠ 0 ∧
      ((m true false 2).setMtp { (m true false 2).mtp with lost := true }).settled = true ∧
      ((m true false 2).setMtp { (m true false 2).mtp with lost := true }).mtp.lost = true := by decide

theorem witness_NGoodSetsProveTheSupply :
    let proven : Spv := { Spv.atReset with proven := true, stability := 50 }
    1 ≤ 50 ∧ Spv.atReset.stability = 0 ∧ Spv.atReset.proven = false ∧ 49 < 50 ∧ 50 = 50 ∧ proven.proven = true ∧
      proven.badRun = 0 ∧ 4 < 5 ∧ 3 < 4 ∧ SeqState.shore ∈ [SeqState.parallel, .shore, .releaseWait, .handback, .unloading] ∧
      SeqState.ready ∉ [SeqState.parallel, .shore, .releaseWait, .handback, .unloading] ∧
      { Spv.atReset with shoreLoss := true }.shoreLoss = true ∧ { Spv.atReset with shoreLoss := true }.recovery = 0 := by
  decide

theorem witness_PredictedAngleStaysInRange :
    let active := base.setSyc { Syc.atReset with watch := .syncActive }
    (-1799 : Int) ≤ -1799 ∧ (1800 : Int) ≤ 1800 ∧ (-500 : Int).natAbs ≤ 500 ∧ 200 ≤ 200 ∧
      active.syc.watch = .syncActive ∧ { goodSet with shipFClamp := true }.shipFClamp = true ∧
      ¬(goodSet.shoreFClamp = true ∨ goodSet.shipFClamp = true) ∧
      ((goodSet.shipF : Int) - goodSet.shoreF).natAbs ≤ active.figs.slip ∧
      active.figs.slip < (({ goodSet with shipF := 50201 }.shipF : Int) - goodSet.shoreF).natAbs := by decide

theorem witness_ThreeGoodSetsPermitTheClose :
    goodSet.verdictAt base.figs = .none ∧ { Syc.atReset with good := 1 }.good ≤ 1 ∧ Syc.atReset.permit = false ∧
      2 ≤ { Syc.atReset with good := 2 }.good ∧ { goodSet with theta := 44 }.verdictAt base.figs ≠ .none ∧
      { goodSet with shipSeq := .negative }.shipSeq = .negative ∧ Syc.atReset.negative = 0 ∧
      goodSet.shipSeq ≠ .negative ∧ { goodSet with shipV := ⟨99, 99, 99⟩ }.shipV.l1 < 100 ∧ Syc.atReset.dead = 0 ∧
      Syc.atReset.confirm = false ∧ 100 ≤ { goodSet with shipV := ⟨0, 0, 100⟩ }.shipV.l3 := by decide

theorem witness_PhaseLimitEndsThePhase :
    let p := withProc transfer ((inState .proving).setCsq { (inState .proving).csq with phase := some 0 })
    let h := withProc (handback .closed) ((inState .handback).setCsq { (inState .handback).csq with phase := some 0 })
    let u := withProc (handback .closed) ((inState .unloading).setCsq { (inState .unloading).csq with phase := some 0 })
    p.csq.phase.isSome = true ∧ p.csq.proc = some transfer ∧ transfer.kind = .transferIn ∧
      p.phaseCause = some .shoreUnstable ∧ h.csq.phase.isSome = true ∧ h.csq.proc = some (handback .closed) ∧
      (handback .closed).kind = .handback ∧ h.csq.state = .handback ∧ u.csq.phase.isSome = true ∧
      u.csq.state = .unloading := by decide

theorem witness_SequencerTimersExpire :
    let running (s : State) : State :=
      s.setCsq { s.csq with releaseDelay := some 0, slotTimer := some 0, quiet := some 0, isoWatch := some 0 }
    let wait := running (withProc (handback .none) (inState .releaseWait))
    wait.csq.releaseDelay.isSome = true ∧ wait.csq.proc = some (handback .none) ∧ wait.csq.state = .releaseWait ∧
      (running (inState .shore)).csq.proc = none ∧ (running (inState .shore)).csq.state = .shore ∧
      wait.csq.slotTimer.isSome = true ∧ (base.setClu { Clu.atReset with stepHeld := true }).clu.stepHeld = true ∧
      wait.csq.quiet.isSome = true ∧ (base.setClu { Clu.atReset with kf := 10 }).clu.claim ≠ 0 ∧
      (running (inState .isolating)).csq.isoWatch.isSome = true ∧ (running (inState .isolating)).csq.state = .isolating ∧
      (running (inState .isolating)).running = true ∧ (running (inState .isolating)).settled = true ∧
      Status.cableLive ∉ (running (inState .isolating)).atu.present := by decide

theorem witness_ConnectStartsCancelsOrIsRefused :
    let press (s : State) : State :=
      s.setPnl { Pnl.atReset with connect := { Validator.atReset with state := .settling, settle := some 0 } }
    let wait := withProc (handback .none) (linked .releaseWait)
    (press (linked .hooked)).pnl.connect.settle.isSome = true ∧ (press (linked .hooked)).csq.state = .hooked ∧
      (press (linked .hooked)).slc.link = .up ∧ (press (linked .hooked)).ptu.latched = [] ∧
      (press (linked .hooked)).chooseMode .closed ≠ .none ∧ wait.csq.state = .releaseWait ∧
      wait.csq.proc = some (handback .none) ∧ (handback .none).kind = .handback ∧
      (press base).csq.state ≠ .releaseWait ∧ (press base).csq.state ≠ .hooked ∧ (inState .hooked).slc.link ≠ .up ∧
      (inState .hooked).chooseMode .closed = .none ∧ base.running = true := by decide

theorem witness_ReleaseButtonShortAndHard :
    let press (s : State) : State :=
      s.setPnl { Pnl.atReset with release := { Validator.atReset with state := .settling, settle := some 0 } }
    let hold (s : State) : State :=
      s.setPnl { Pnl.atReset with release := { Validator.atReset with state := .held } }
    (press (inState .shore)).pnl.release.settle.isSome = true ∧ (press (inState .shore)).csq.state = .shore ∧
      (press (withProc transfer (inState .proving))).csq.state.transferring = true ∧
      (press (withProc transfer (inState .parallel))).csq.state = .parallel ∧
      (press (withProc transfer (inState .parallel))).csq.proc = some transfer ∧ transfer.kind = .transferIn ∧
      (press base).csq.state = .start ∧ (hold (inState .shore)).pnl.release.state = .held ∧
      (hold (inState .shore)).pnl.release.reported = false ∧ (hold (inState .shore)).csq.proc = none ∧
      (hold (withProc (handback .none) (inState .unloading))).csq.proc = some (handback .none) ∧
      (hold (inState .proving)).csq.state ∉ [SeqState.shore, .releaseWait, .handback, .unloading] := by decide

theorem witness_AcknowledgeAndLockoutClear :
    let press (s : State) : State :=
      s.setPnl { Pnl.atReset with ack := { Validator.atReset with state := .settling, settle := some 0 } }
    let hold (s : State) : State := s.setPnl { Pnl.atReset with ack := { Validator.atReset with state := .held } }
    let tripped (s : State) : State := s.setPtu { Ptu.atReset with latched := [.overload], firstOut := some .overload }
    let stays (s : State) : State :=
      s.setPtu { Ptu.atReset with latched := [.eStop], firstOut := some .eStop, eStop := true }
    base.running = true ∧ (press base).pnl.ack.settle.isSome = true ∧ (press base).csq.state = .start ∧
      (press (tripped (inState .hooked))).csq.state ≠ .start ∧ (press (tripped (inState .hooked))).ptu.latched ≠ [] ∧
      (Pnl.press .ack (Ptu.acknowledge Source.all) (press (tripped (inState .hooked)))).1.ptu.latched = [] ∧
      (Pnl.press .ack (Ptu.acknowledge Source.all) (press (stays (inState .hooked)))).1.ptu.latched ≠ [] ∧
      onBus.tbc.can.onBus = true ∧ [5#8, 4#8, 0#8].length = 3 ∧ fieldNat [5#8, 4#8, 0#8] 0 1 = onBus.own ∧ onBus.csq.state = .start ∧
      (let trip (x : Source) (s : State) : State := s.setPtu { s.ptu with latched := [x], firstOut := some x };
        let ship := onBus.setCsq { onBus.csq with state := .hooked };
        let acked (s : State) : State := (Tbc.frame 448#11 [5#8, 4#8, 0#8] s).1;
        (trip .overload ship).ptu.latched ≠ [] ∧ (acked (trip .overload ship)).ptu.latched ≠ [] ∧
          (acked (trip .breakerFail ship)).ptu.latched = []) ∧
      (onBus.setCsq { onBus.csq with state := .hooked }).csq.state ≠ .start ∧
      (hold (inState .lockout)).pnl.ack.state = .held ∧ (hold (inState .lockout)).pnl.ack.reported = false ∧
      (hold (inState .lockout)).csq.state = .lockout ∧ (hold (inState .lockout)).ptu.latched = [] ∧
      (hold (tripped (inState .lockout))).ptu.latched ≠ [] := by decide

theorem witness_ButtonsFlashAndClockRun :
    let v (state : ButtonState) : State :=
      base.setPnl
        { Pnl.atReset with
          ack := { Validator.atReset with state := state, letgo := some 0 }, flash := some 0, flashToggle := some 0
          clockTimer := some 0, clock := 7 }
    base.running = true ∧ (v .idle).settled = true ∧ ((v .idle).pnl.validator .ack).state = .idle ∧
      ((v .settling).pnl.validator .ack).state = .settling ∧ ((v .held).pnl.validator .ack).state = .held ∧
      ((v .lockedOut).pnl.validator .ack).state = .lockedOut ∧
      ((v .held).pnl.validator .ack).letgo.isSome = true ∧ (v .idle).pnl.flash.isSome = true ∧
      (v .idle).pnl.flashToggle.isSome = true ∧ (v .idle).pnl.clockTimer.isSome = true := by decide

theorem witness_LampsAndAttentionFollowTheState :
    let pulse := base.setCfl { base.cfl with figs := { base.figs with pulseMode := true } }
    exec .ackPress base = .next (left (exec .ackPress base)) ∧ (left (exec .ackPress base)).running = true ∧
      (left (exec .ackPress (inState .shore))).csq.state = .shore ∧
      (left (exec .ackPress (inState .proving))).csq.state = .proving ∧
      (left (exec .ackPress (inState .isolating))).csq.state = .isolating ∧
      (left (exec .ackPress base)).csq.state ≠ .lockout ∧
      (left (exec .ackPress (inState .lockout))).csq.state = .lockout ∧
      (left (exec .ackPress (held .shore))).psm.setState = .complete ∧
      (left (exec .ackPress (base.setPnl { base.pnl with flash := some 1 }))).pnl.flash.isSome = true ∧
      (left (exec .ackPress base)).pnl.flash = none ∧ (left (exec .ackPress pulse)).figs.pulseMode = true ∧
      (left (exec .ackPress base)).figs.pulseMode = false := by
  refine ⟨rfl, ?_⟩
  decide +kernel

theorem witness_ContactsMoveTheBreakerState :
    let b (state : BreakerState) : State := base.setBkd { Bkd.atReset with state := state }
    base.running = true ∧ (b .closing).bkd.state = .closing ∧ contactReading true false = .closed ∧
      contactReading false false ≠ .closed ∧ (b .closed).bkd.state = .closed ∧
      contactReading false true = .opened ∧ contactReading true true = .invalid ∧ (b .opening).bkd.state = .opening ∧
      (b .failed).bkd.state = .failed ∧ (b .opened).bkd.state = .opened ∧ contactReading true false ≠ .opened := by
  decide

theorem witness_PulsesAntiPumpAndEmergencyStop :
    let pulse (state : BreakerState) : State := base.setBkd { Bkd.atReset with state := state, closePulse := some 40 }
    base.settled = true ∧ (base.setBkd { base.bkd with antiPump := some 0 }).bkd.antiPump.isSome = true ∧
      (pulse .closing).bkd.closePulse = some 40 ∧ (pulse .closing).bkd.state = .closing ∧
      (pulse .closed).bkd.state = .closed ∧ base.running = true ∧ base.ptu.eStop = false := by decide

theorem witness_BreakerSupervisionsExpire :
    let b := base.setBkd { Bkd.atReset with closeSup := some 0, openSup := some 0, contactWatch := some 0 }
    b.bkd.closeSup.isSome = true ∧ b.bkd.reading ≠ .opened ∧ b.bkd.openSup.isSome = true ∧
      b.bkd.contactWatch.isSome = true ∧
      (b.setBkd { b.bkd with reading := .opened }).bkd.reading = .opened := by decide

theorem witness_CloseOnlyByAnAcceptedOrder :
    let s := ((held .syncing).setEsd { Esd.atReset with state := .opened }).setBkd
      { Bkd.atReset with state := .opened, slotHeld := true }
    let t := (inState .syncing).setBkd { Bkd.atReset with state := .closing, hold := true }
    s.bkd.hold = false ∧ (handle .bkdClose s).1.bkd.hold = true ∧ s.bkd.closePulse = none ∧
      (handle .bkdClose s).1.bkd.closePulse ≠ none ∧ s.closeRefusal = none ∧ t.bkd.hold = true ∧
      t.holdConditions = false ∧ t.bkd.state = .closing := by decide

theorem witness_TripOnsetIsRecordedOnce :
    let t := base.setPtu { Ptu.atReset with latched := [.overload], firstOut := some .overload }
    Source.eStop ∉ base.ptu.latched ∧ base.ptu.latched = [] ∧ t.ptu.latched ≠ [] ∧
      Source.overload ∈ t.ptu.latched := by decide

/-- R105: a fall of K that leaves the accumulator above the new L2 caps it there and trips, whatever S is. -/
theorem test_overload_fall_of_k :
    let o := { Ptu.atReset with acc := 250100 }.detectOverload { goodSet with s := 0 } 1000 .closed
    o.1.acc = 250000 ∧ .ptuOnset .overload ∈ o.2 := by decide

theorem witness_DetectorsCountTheirRuns :
    300 < { goodSet with residual := 301 }.residual ∧ Ptu.atReset.earthRun = 0 ∧ Ptu.atReset.earthFault = false ∧
      1 ≤ 5 ∧ { goodSet with residual := 300 }.residual ≤ 300 ∧
      2500 < { goodSet with current := ⟨2501, 0, 0⟩ }.current.l1 ∧ goodSet.current.l1 ≤ 2500 ∧
      goodSet.current.l2 ≤ 2500 ∧ goodSet.current.l3 ≤ 2500 ∧ { goodSet with p := -301 }.p < -((300 : Nat) : Int) ∧
      Ptu.atReset.reverseRun = 0 ∧ SeqState.shore ≠ .parallel ∧ SeqState.shore ≠ .unloading ∧
      ¬SeqState.parallel ≠ .parallel ∧ 250 * 1000 < { Ptu.atReset with acc := 250100 }.acc ∧ Ptu.atReset.acc ≤ 250 * 1000 ∧ -((300 : Nat) : Int) ≤ { goodSet with p := -300 }.p ∧ 0 < 1300 ∧
      BreakerState.closed ≠ .opened := by decide

theorem witness_TripNoticeEndsTheConnection :
    let into := withProc transfer (inState .parallel)
    let back (state : SeqState) : State := withProc (handback .closed) (inState state)
    Source.overload.fatal = false ∧ Source.overcurrent.fatal = true ∧ base.csq.state = .start ∧
      (inState .vacant).csq.state ≠ .start ∧
      (inState .vacant).csq.state ∈ [SeqState.vacant, .hooked, .isolating, .lockout] ∧
      (inState .vacant).csq.state ∈ [SeqState.vacant, .hooked, .isolating] ∧ (inState .vacant).csq.proc = none ∧
      into.csq.proc = some transfer ∧ transfer.kind = .transferIn ∧ into.csq.state = .parallel ∧
      (withProc transfer (inState .syncing)).csq.state.transferring = true ∧
      (withProc transfer (inState .syncing)).csq.proc = some transfer ∧
      (withProc transfer (inState .syncing)).csq.state ≠ .parallel ∧
      (inState .shore).csq.state = .shore ∧ (back .releaseWait).csq.state = .releaseWait ∧
      (back .handback).csq.proc = some (handback .closed) ∧ (handback .closed).kind = .handback ∧
      (back .handback).csq.state = .handback ∧ (back .unloading).csq.state = .unloading ∧
      (back .isolating).csq.state = .isolating ∧ (back .isolating).csq.proc = some (handback .closed) ∧
      (inState .lockout).csq.state = .lockout ∧ (inState .shore).csq.state ≠ .lockout := by decide

theorem witness_ShipTransferRequestsAreTaken :
    let ok := (linked .hooked).setCsq { (linked .hooked).csq with mask := false }
    let sub (state : SeqState) : State := (linked state).setCsq { (linked state).csq with sub := .awaitingReady }
    let trip := ok.setPtu { Ptu.atReset with latched := [.overload], firstOut := some .overload }
    ok.slc.link = .up ∧ ok.csq.state = .hooked ∧ ok.csq.mask = false ∧ ok.csq.retry < 3 ∧ ok.ptu.latched = [] ∧
      ok.chooseMode (Mode.ofByte 1#8) ≠ .none ∧ (linked .hooked).csq.mask = true ∧
      3 ≤ (ok.setCsq { ok.csq with retry := 3 }).csq.retry ∧ trip.ptu.latched ≠ [] ∧
      (ok.setSlc { ok.slc with offersClosed := false, offersOpen := false }).chooseMode (Mode.ofByte 1#8) = .none ∧
      (linked .syncing).csq.state.transferring = true ∧ (linked .start).csq.state = .start ∧
      (sub .syncing).csq.sub = .awaitingReady ∧ (sub .syncing).csq.state = .syncing ∧
      (sub .deadwait).csq.state = .deadwait ∧ (linked .syncing).csq.sub ≠ .awaitingReady ∧
      (linked .syncing).csq.state = .syncing ∧ (linked .ready).csq.state ∉ [SeqState.syncing, .deadwait, .handback] ∧
      (withProc (handback .closed) (linked .handback)).csq.state = .handback ∧
      (withProc (handback .closed) (linked .handback)).csq.proc.map (·.mode) ≠ some .opened ∧
      (withProc (handback .opened) (linked .handback)).csq.proc = some (handback .opened) ∧
      (handback .opened).mode = .opened ∧ (withProc transfer (linked .parallel)).csq.proc = some transfer ∧
      (withProc transfer (linked .parallel)).csq.state = .parallel ∧ (linked .hooked).csq.state ≠ .parallel := by decide

theorem witness_ShipHandbackRequestsAreTaken :
    (linked .shore).slc.link = .up ∧ (linked .shore).csq.state = .shore ∧
      (linked .shore).modeAvailable (Mode.ofByte 1#8) = true ∧ (linked .releaseWait).csq.state = .releaseWait ∧
      (linked .releaseWait).modeAvailable (Mode.ofByte 0#8) = false ∧ (linked .unloading).csq.state = .unloading ∧
      (withProc (handback .closed) (linked .handback)).csq.proc = some (handback .closed) ∧
      (handback .closed).mode = .closed ∧ (handback .closed).kind = .handback ∧
      (withProc transfer (linked .ready)).csq.state.transferring = true ∧
      (withProc transfer (linked .ready)).csq.proc = some transfer ∧ transfer.kind = .transferIn ∧
      (withProc (handback .closed) (linked .handback)).csq.state = .handback ∧
      (linked .isolating).csq.state ∉ [SeqState.shore, .releaseWait, .handback, .unloading] ∧
      (linked .shore).csq.state ∉ [SeqState.handback, .unloading] ∧
      (withProc (handback .opened) (linked .handback)).csq.proc.map (·.mode) ≠ some .closed ∧
      (linked .unloading).csq.state.transferring = false ∧ (linked .unloading).csq.state ≠ .parallel ∧
      (linked .unloading).csq.state ≠ .handback := by decide

theorem witness_ShipHelloSetsTheLink :
    (hello 6930).length = 24 ∧ (linkAt .waiting).slc.link ≠ .down ∧ fieldNat (hello 6930) 2 4 = (linkAt .waiting).figs.fn ∧
      20 * ((fieldNat (hello 6930) 6 4 : Int) - (linkAt .waiting).figs.vn).natAbs ≤ (linkAt .waiting).figs.vn ∧
      ¬20 * ((fieldNat (hello 6931) 6 4 : Int) - (linkAt .waiting).figs.vn).natAbs ≤ (linkAt .waiting).figs.vn ∧
      fieldNat (List.replicate 24 0) 2 4 ≠ (linkAt .up).figs.fn ∧ (linkAt .up).slc.link = .up ∧
      (linkAt .lost).slc.link ≠ .up ∧ (linkAt .waiting).slc.queue.length < 8 ∧
      [ShipMsg.ceiling 0 0].any ShipMsg.isCeiling = true := by decide

theorem witness_ShipStatusAndDiscards :
    let with_ (b : Byte) : List Byte := [1#8, b] ++ List.replicate 10 0
    let gap := (linkAt .up).setSlc { (linkAt .up).slc with gap := some 0, rx := .inFrame [1#8] }
    (with_ 1#8).length = 12 ∧ (linkAt .up).slc.link = .up ∧ fieldNat (with_ 1#8) 1 1 % 2 = 1 ∧
      ¬fieldNat (with_ 2#8) 1 1 % 2 = 1 ∧ fieldNat (with_ 2#8) 1 1 / 2 % 2 = 1 ∧
      ¬fieldNat (with_ 1#8) 1 1 / 2 % 2 = 1 ∧ (linkAt .up).settled = true ∧ gap.slc.gap.isSome = true ∧
      isRequest .ready = true ∧ (linkAt .lost).settled = true ∧ (linkAt .lost).slc.link ≠ .up ∧
      (linkAt .lost).slc.link ≠ .down ∧ (linkAt .down).slc.link = .down ∧ (linkAt .down).settled = true := by decide

theorem witness_BytesSpellTheMessage :
    shipFrameOf (.transferIn 1#8) = some (3, [1#8]) ∧ (Instr.transferIn 1#8).wellFormed = true ∧
      (linkAt .up).refresh.running = true ∧ (linkAt .up).refresh.settled = true ∧ (linkAt .up).refresh.slc.link ≠ .down ∧
      (linkAt .up).refresh.slc.rx = .hunting ∧ (linkAt .up).refresh.out = (linkAt .up).refresh.lines := by decide

theorem witness_ShipLinkTimersRun :
    let s (l : LinkState) : State :=
      (linkAt l).setSlc
        { (linkAt l).slc with silence := some 0, hello := some 0, ceiling := some 0, linkHold := some 0 }
    (s .up).slc.silence.isSome = true ∧ (s .up).slc.link = .up ∧ (s .up).settled = true ∧
      (s .waiting).settled = true ∧ (s .waiting).slc.hello.isSome = true ∧ (s .waiting).slc.link ≠ .up ∧
      (s .waiting).slc.link ≠ .down ∧ (s .waiting).slc.queue = [] ∧ (s .waiting).slc.sending = none ∧
      (s .up).slc.ceiling.isSome = true ∧ (s .up).slc.queue = [] ∧ (s .up).slc.sending = none ∧
      (s .lost).slc.linkHold.isSome = true ∧
      ((s .up).setSlc { (s .up).slc with sending := some .over }).slc.sending.isSome = true ∧
      ((s .waiting).setSlc { (s .waiting).slc with sending := some .over }).slc.sending.isSome = true ∧
      (s .up).slc.rx = .hunting ∧ 0x7F#8 ≠ 0x7E#8 ∧ (s .down).slc.link = .down ∧ (s .down).settled = true ∧
      ((s .up).setSlc { (s .up).slc with rx := .inFrame [4#8] }).slc.rx = .inFrame [4#8] ∧
      ([4#8] ++ [25#8]).length = 2 ∧ 24 < (25#8).toNat ∧ ¬(([4#8] ++ [24#8]).length = 2 ∧ 24 < (24#8).toNat) ∧
      ([4#8] ++ [24#8]).length < fieldNat ([4#8] ++ [24#8]) 1 1 + 4 ∧ ([] ++ [4#8]).length < 2 ∧
      fieldNat ([9#8, 0#8, 0#8] ++ [0#8]) 1 1 + 4 ≤ ([9#8, 0#8, 0#8] ++ [0#8]).length ∧
      shipKindLength (fieldNat ([9#8, 0#8, 0#8] ++ [0#8]) 0 1) ≠ some 0 ∧
      shipKindLength (fieldNat ([4#8, 0#8, 0#8] ++ [0#8]) 0 1) = some 0 ∧
      ([4#8, 0#8, 0#8] ++ [0#8]).drop 2 ≠ crcBytes (([4#8, 0#8, 0#8] ++ [0#8]).take 2) := by decide +kernel

theorem witness_StatusIsFiled :
    onBus.tbc.can.onBus = true ∧ (257#11).toNat = 256 + 1 ∧ (272#11).toNat = 256 + 16 ∧ 1 ≠ onBus.own ∧ 16 ≠ onBus.own ∧
      statusOfOne.length = 8 ∧ findPeer 3 (withPeer peer).tbc.peers = some peer ∧ findPeer 1 onBus.tbc.peers = none ∧
      (259#11).toNat = 256 + 3 ∧ 3 ≠ (withPeer peer).own := by decide

theorem witness_StatusFrameRoundTrip :
    let s := (base.setClu { Clu.atReset with kf := 20000, kc := 20950 }).setShc { Shc.atReset with cd := 40950, uq := 255 }
    s.clu.claim % 10 = 0 ∧ s.clu.claim < 40960 ∧ s.clu.floorField % 10 = 0 ∧ s.clu.floorField < 40960 ∧
      s.shc.cd % 10 = 0 ∧ s.shc.cd < 40960 ∧ s.shc.uq < 256 := by decide

theorem witness_BidsAndObjectionsAreTaken :
    let e : OpenBid := ⟨7, 100, .charge, false, 0⟩
    let own := onBus.setClu { Clu.atReset with bid := some ⟨.claim .charge, 9, 100, some 250⟩ }
    onBus.tbc.can.onBus = true ∧ (131#11).toNat = 128 + 3 ∧ (67#11).toNat = 64 + 3 ∧ 3 ≠ onBus.own ∧
      [7#8, 0#8, 10#8, 1#8].length = 4 ∧ findPeer 3 (withPeer { peer with bid := some e }).tbc.peers = some { peer with bid := some e } ∧
      [5#8, 9#8, 1#8].length = 3 ∧ fieldNat [5#8, 9#8, 1#8] 0 1 = own.own ∧
      own.clu.bid = some ⟨.claim .charge, 9, 100, some 250⟩ ∧ fieldNat [5#8, 9#8, 1#8] 1 1 = 9 ∧
      onBus.clu.bid = none ∧ fieldNat [3#8, 7#8, 1#8] 0 1 ≠ onBus.own ∧ e.serial = fieldNat [3#8, 7#8, 1#8] 1 1 ∧
      (144#11).toNat = 128 + 16 ∧ 16 ≠ onBus.own := by decide

theorem witness_StepBidsAndFreesAreTaken :
    let s := (withPeer { peer with stepHold := some 0 }).setClu { Clu.atReset with stepReq := true }
    s.tbc.can.onBus = true ∧ (163#11).toNat = 160 + 3 ∧ (195#11).toNat = 192 + 3 ∧ 3 ≠ s.own ∧ [41#8].length = 1 ∧
      ([] : List Byte).length = 0 ∧ StepsOrdered s.own s.clu.stepList ∧ s.holdRecorded 3 = true ∧
      s.clu.stepReq = true := by
  refine ⟨rfl, by decide, by decide, by decide, rfl, rfl, ?_, rfl, rfl⟩
  simp [StepsOrdered, State.setClu, Clu.atReset]

theorem witness_QueriesAreAnswered :
    let busy (n : Nat) : State := onBus.setTbc
      { onBus.tbc with queue := List.replicate n ⟨.reply [], none⟩, attempt := some ⟨.reply [], [], false⟩ }
    let d (item n : Nat) : List Byte := beBytes 1 5 ++ beBytes 1 item ++ beBytes 1 n
    onBus.tbc.can.onBus = true ∧ (384#11).toNat = 384 ∧ 1 ≤ onBus.own ∧ (d 1 3).length = 3 ∧ fieldNat (d 1 3) 0 1 = onBus.own ∧ onBus.settled = true ∧
      (busy 21).tbc.can.onBus = true ∧ fieldNat (d 1 3) 0 1 = (busy 21).own ∧ (busy 21).settled = true ∧
      (busy 24).settled = true ∧ fieldNat (d 1 3) 1 1 = 1 ∧ fieldNat (d 2 3) 1 1 = 2 ∧ fieldNat (d 3 3) 1 1 = 3 ∧
      fieldNat (d 4 3) 1 1 = 4 ∧
      onBus.tbc.queue.length + (segments 1 (onBus.heard.summary 0)).length ≤ 24 ∧
      ¬(busy 21).tbc.queue.length + (segments 1 ((busy 21).heard.summary 0)).length ≤ 24 ∧
      (busy 21).tbc.queue.length + (segments 2 (busy 21).heard.tripItem).length ≤ 24 ∧
      ¬(busy 24).tbc.queue.length + (segments 2 (busy 24).heard.tripItem).length ≤ 24 ∧
      onBus.tbc.queue.length + (segments 3 onBus.heard.resultItem).length ≤ 24 ∧
      ¬(busy 24).tbc.queue.length + (segments 3 (busy 24).heard.resultItem).length ≤ 24 ∧
      (busy 21).tbc.queue.length + (segments 4 ((busy 21).heard.peerItem 3)).length ≤ 24 ∧
      ¬(busy 24).tbc.queue.length + (segments 4 ((busy 24).heard.peerItem 3)).length ≤ 24 := by decide +kernel

theorem witness_SegmentsCarryTheItem :
    (List.replicate 24 (0 : Byte)).length ≤ 24 ∧ (segments 1 (List.replicate 24 0))[3]?.isSome = true ∧
      3 + 1 = (segments 1 (List.replicate 24 0)).length ∧ 2 + 1 < (segments 1 (List.replicate 24 0)).length ∧
      onBus.tbc.can.sends = true ∧ onBus.tbc.queue.length + (List.replicate 24 ([] : List Byte)).length ≤ 24 := by decide

theorem witness_OwnFrameCompletes :
    let queued := onBus.setTbc { onBus.tbc with queue := [⟨.status, some 0⟩] }
    let sending (again lost : Bool) : State :=
      queued.setTbc { queued.tbc with attempt := some ⟨.status, statusOfOne, again⟩, busLost := lost }
    let bidding := onBus.setClu { Clu.atReset with bid := some ⟨.step, 41, 0, none⟩ }
    offeredFrame [⟨.status, none⟩, ⟨.stepFree, none⟩] = some ⟨.stepFree, none⟩ ∧ queued.tbc.can.onBus = true ∧
      queued.tbc.attempt = none ∧ offeredFrame queued.tbc.queue = some ⟨.status, some 0⟩ ∧
      (sending false false).tbc.can.onBus = true ∧
      (sending false false).tbc.attempt = some ⟨.status, statusOfOne, false⟩ ∧ (sending false false).tbc.busLost = false ∧
      (261#11).toNat = 32 * TxBody.status.kindCode + onBus.own ∧ (sending false false).settled = true ∧
      (260#11).toNat ≠ 32 * TxBody.status.kindCode + onBus.own ∧ onBus.settled = true ∧ onBus.tbc.attempt = none ∧
      (sending true false).tbc.attempt = some ⟨.status, statusOfOne, true⟩ ∧
      (sending false true).tbc.attempt = some ⟨.status, statusOfOne, false⟩ ∧ (sending false true).tbc.busLost = true ∧
      ((dropKind .status (sending true false).tbc.queue).map fun f => { f with timer := some 1000 }).length < 24 ∧
      (TxBody.stepBid 41).bidding = true ∧ bidding.tbc.can.onBus = true ∧
      bidding.clu.bid = some ⟨.step, 41, 0, none⟩ := by decide

theorem witness_BusTimersAndErrors :
    let s := onBus.setTbc
      { onBus.tbc with
        period := some 0, queue := [⟨.status, some 0⟩], attempt := some ⟨.status, statusOfOne, false⟩ }
    let off := onBus.setTbc { onBus.tbc with can := .busOff, txErr := 256 }
    s.tbc.period.isSome = true ∧ s.tbc.can.sends = true ∧ s.tbc.queue.length < 24 ∧
      leastTimer s.tbc.queue = some 0 ∧ s.tbc.busLost = false ∧ s.settled = true ∧ s.tbc.can.onBus = true ∧
      off.settled = true ∧ off.tbc.can = .busOff := by decide

theorem witness_PeersAndControlFrames :
    let d := onBus.setTbc { onBus.tbc with duplicate := true }
    (withPeer peer).settled = true ∧ findPeer 3 (withPeer peer).tbc.peers = some peer ∧ peer.live = true ∧
      onBus.tbc.can.onBus = true ∧ (480#11).toNat = 480 ∧ 1 ≤ onBus.own ∧ onBus.tbc.duplicate = false ∧ d.settled = true ∧ d.tbc.duplicate = true ∧
      [5#8, 2#8, 0#8, 3#8].length = 4 ∧ fieldNat [5#8, 2#8, 0#8, 3#8] 0 1 = onBus.own ∧
      fieldNat [5#8, 2#8, 0#8, 3#8] 1 1 = 2 ∧ fieldNat [5#8, 1#8, 1#8, 255#8] 0 1 = onBus.own ∧
      fieldNat [5#8, 1#8, 1#8, 255#8] 1 1 = 1 ∧ onBus.settled = true := by decide

theorem witness_UnwantedFramesChangeNothing :
    let kind (ident : BitVec 11) : Nat := ident.toNat / 32
    let sender (ident : BitVec 11) : Nat := ident.toNat % 32
    let peers := [(2, 3), (4, 4), (5, 1), (6, 0), (8, 8)]
    let station := [(12, 3), (14, 3), (15, 4)]
    base.settled = true ∧ base.tbc.can.onBus = false ∧ isFrame .ownNumberFrame = true ∧ onBus.settled = true ∧
      onBus.tbc.can.onBus = true ∧ frameOf (.status 273#11 statusOfOne) = some ⟨273#11, statusOfOne⟩ ∧
      16 < sender 273#11 ∧ sender 97#11 ≠ onBus.own ∧ (kind 97#11, 0) ∉ peers ++ station ∧
      (kind 417#11, 2) ∉ peers ++ station ∧ (kind 257#11, 9) ∉ peers ++ station ∧ (kind 256#11, 8) ∈ peers ∧
      sender 256#11 = 0 ∧ sender 256#11 ≠ onBus.own ∧ (kind 385#11, 3) ∈ station ∧ sender 385#11 ≠ 0 ∧
      sender 385#11 ≠ onBus.own ∧ (kind 448#11, 3) ∈ station ∧ fieldNat [6#8, 1#8, 0#8] 0 1 ≠ onBus.own ∧
      kind 384#11 = 12 ∧ fieldNat [5#8, 0#8, 0#8] 1 1 = 0 ∧ 4 < fieldNat [5#8, 5#8, 0#8] 1 1 ∧ kind 480#11 = 15 ∧
      fieldNat [5#8, 0#8, 0#8, 0#8] 1 1 = 0 ∧ 2 < fieldNat [5#8, 3#8, 0#8, 0#8] 1 1 ∧ sender 261#11 ≤ 16 ∧
      sender 261#11 = onBus.own := by decide

theorem witness_PeerWindowsAndHoldsEnd :
    let e (objected : Bool) (kind : BidKind) : OpenBid := ⟨7, 100, kind, objected, 0⟩
    let p (objected : Bool) (kind : BidKind) : Peer := { peer with bid := some (e objected kind) }
    let s (objected : Bool) : State :=
      onBus.setClu { Clu.atReset with stepList := [⟨3, some ⟨41, 0, objected⟩, some 0⟩] }
    findPeer 3 (withPeer (p true .charge)).tbc.peers = some (p true .charge) ∧ (p true .charge).bid = some (e true .charge) ∧
      (e false .charge).objected = false ∧ (e false .topup).kind ≠ .charge ∧
      findPeer 3 (withPeer (p false .topup)).tbc.peers = some (p false .topup) ∧
      StepsOrdered (s false).own (s false).clu.stepList ∧ (s false).stepBidOf 3 = some ⟨41, 0, false⟩ ∧
      (s true).stepBidOf 3 = some ⟨41, 0, true⟩ ∧ (s false).holdRecorded 3 = true := by
  refine ⟨by decide, rfl, rfl, by decide, by decide, ?_, by decide, by decide, by decide⟩
  simp [StepsOrdered, State.setClu, Clu.atReset, onBus, base, State.setTbc, State.own]

theorem witness_OwnWindowCommits :
    let s (kind : OwnKind) : State := base.setClu { Clu.atReset with bid := some ⟨kind, 1, 100, some 0⟩, backoff := some 0 }
    (s .step).clu.bid = some ⟨.step, 1, 100, some 0⟩ ∧ (some 0 : Timer).isSome = true ∧
      (s (.claim .floor)).clu.bid = some ⟨.claim .floor, 1, 100, some 0⟩ ∧
      (s (.claim .topup)).clu.bid = some ⟨.claim .topup, 1, 100, some 0⟩ ∧
      (s (.claim .charge)).clu.bid = some ⟨.claim .charge, 1, 100, some 0⟩ ∧ (s .step).clu.backoff.isSome = true := by
  decide

theorem witness_ClaimTimersExpire :
    let s := (base.setClu
      { Clu.atReset with grace := some 0, pendingCeiling := some 1000, topup := some 0, floorReq := some 60001 }).setShc
      { Shc.atReset with pass := some 0 }
    s.clu.grace.isSome = true ∧ s.clu.pendingCeiling = some 1000 ∧ s.settled = true ∧ s.clu.floorReq.isSome = true ∧
      s.clu.kf = 0 ∧ s.clu.budgetWait = false ∧ s.shc.pass.isSome = true ∧ s.running = true := by decide

theorem witness_AttemptBidsWithinAvail :
    base.csq.state = .start ∧
      (let full := allotment.setTbc { allotment.tbc with peers := [{ peer with k := 5800 }] };
        full.bidBlocked = true ∧ (full.setClu (full.clu.refreshFloor full.shc.fr)).overcommitted = true) ∧ allotment.clu.bid = none ∧
      (handle .cluAttempt (handle (.cluDecision (.raise 1300)) allotment).1).1.clu.bid =
        some ⟨.claim .charge, 0, 1300, none⟩ := by decide

theorem witness_ShareFiguresAndDecision :
    0 < 1 ∧ 0 < 1439 ∧ (0 : Int) ≤ 0 ∧ base.csq.state ≠ .shore ∧ base.csq.state ≠ .releaseWait ∧
      (∀ p ∈ (withPeer peer).tbc.peers, p.berth ≠ (withPeer peer).own) := by decide

theorem witness_RankingOrdersCandidates :
    (([⟨3, 45, 100⟩, ⟨7, 45, 200⟩] : List Candidate).map fun a => a.berth).Nodup ∧
      ∀ a ∈ ([⟨3, 45, 100⟩, ⟨7, 45, 200⟩] : List Candidate), a.berth ≠ 5 := by decide

/-- The machine right after reset steps, and every invariant holds of it. -/
theorem witness_RecordsAndCountsStayInOrder :
    step State.reset = .next (left (step State.reset)) ∧ State.reset.ptu.Ordered ∧ State.reset.csq.Ordered ∧
      State.reset.CountsOrdered ∧ State.reset.ProofOrdered := by
  refine ⟨rfl, ⟨?_, ?_, ?_, ?_, ?_, ?_, ?_⟩, ⟨?_, ?_, ?_, ?_, ?_⟩, ⟨?_, ?_, ?_, ?_, ?_, ?_, ?_, ?_, ?_, ?_, ?_, ?_, ?_⟩, ⟨?_, ?_, ?_⟩⟩ <;>
    decide

theorem witness_BusesStayInOrder :
    State.reset.BusQuiet ∧ State.reset.slc.Ordered ∧ State.reset.tbc.Ordered ∧
      PeersOrdered State.reset.own State.reset.tbc.peers ∧ StepsOrdered State.reset.own State.reset.clu.stepList ∧
      step State.reset = .next (left (step State.reset)) := by
  refine ⟨fun _ => ?_, ⟨?_, ?_, ?_⟩, ⟨?_, ?_, ?_, ?_, by decide, fun a h => nomatch h⟩, ⟨?_, ?_⟩, ⟨?_, ?_⟩, rfl⟩ <;> decide

theorem witness_DrivesStaySafe :
    State.reset.BreakerSafe ∧ State.reset.esd.DriveSafe ∧ step State.reset = .next (left (step State.reset)) := by
  exact ⟨⟨by decide, by decide, by decide, by decide⟩, by simp [Esd.DriveSafe, State.reset, Esd.atReset], rfl⟩

theorem witness_OnlyTheirCommandsReachThem :
    let press := (linked .hooked).setPnl
      { Pnl.atReset with
        connect := { Validator.atReset with state := .settling, settle := some 0 }
        ack := { Validator.atReset with state := .settling, settle := some 0 } }
    let tripped := press.setPtu { Ptu.atReset with latched := [.overload], firstOut := some .overload }
    press.csq.mask = true ∧ (left (exec .connectPress press)).csq.mask = false ∧
      Source.overload ∈ tripped.ptu.latched ∧ Source.overload ∉ (left (exec .ackPress tripped)).ptu.latched ∧
      (left (exec (.pilotMade .p1) base)).pins ≠ base.pins ∧
      (left (exec .checkEvent (base.setMtp { base.mtp with check := some 0 }))).mtp ≠
        (base.setMtp { base.mtp with check := some 0 }).mtp := by
  decide +kernel

end Sys2Proof.Tests
end

/-!
# The plug set follows its inputs (chapter 1, R1 to R5, R7, R8)

In four parts: the family of the plug positions; what a cascade of hand-offs leaves of the latched set; what each
operation of the plug set monitor answers in each of its cases; and the statement, clause by clause.
-/

namespace Sys2Proof.Machine

/-! ### Plug positions -/

@[simp] theorem Four.get_set_self {α : Type} (f : Four α) (i : PlugNo) (a : α) : (f.set i a).get i = a := by
  cases i <;> rfl

/-- A property of every plug of the set, read plug by plug. -/
theorem Four.allIn_iff {α : Type} (np : Nat) (g : α → Bool) (f : Four α) :
    f.allIn np g = true ↔ ∀ i, inPlugSet np i = true → g (f.get i) = true := by
  simp only [Four.allIn, Bool.and_eq_true, Bool.or_eq_true, Bool.not_eq_true', ← Bool.not_eq_true,
    ← imp_iff_not_or]
  constructor
  · rintro ⟨⟨⟨h1, h2⟩, h3⟩, h4⟩ i
    cases i with
    | p1 => exact h1
    | p2 => exact h2
    | p3 => exact h3
    | p4 => exact h4
  · exact fun h => ⟨⟨⟨h .p1, h .p2⟩, h .p3⟩, h .p4⟩

/-! ### A hand-off takes no source out of the latched set -/

theorem latched_subset_of_eq {s t : State} (h : t.ptu = s.ptu) : s.ptu.latched ⊆ t.ptu.latched := by
  rw [h]; exact List.Subset.refl _

theorem OnlyPsm.latched_subset {s t : State} (h : OnlyPsm s t) : s.ptu.latched ⊆ t.ptu.latched :=
  latched_subset_of_eq (by rw [h]; rfl)
theorem OnlyEsd.latched_subset {s t : State} (h : OnlyEsd s t) : s.ptu.latched ⊆ t.ptu.latched :=
  latched_subset_of_eq (by rw [h]; rfl)
theorem OnlyBkd.latched_subset {s t : State} (h : OnlyBkd s t) : s.ptu.latched ⊆ t.ptu.latched :=
  latched_subset_of_eq (by rw [h]; rfl)
theorem OnlyCsq.latched_subset {s t : State} (h : OnlyCsq s t) : s.ptu.latched ⊆ t.ptu.latched :=
  latched_subset_of_eq (by rw [h]; rfl)
theorem OnlySlc.latched_subset {s t : State} (h : OnlySlc s t) : s.ptu.latched ⊆ t.ptu.latched :=
  latched_subset_of_eq (by rw [h]; rfl)
theorem OnlyShc.latched_subset {s t : State} (h : OnlyShc s t) : s.ptu.latched ⊆ t.ptu.latched :=
  latched_subset_of_eq (by rw [h]; rfl)
theorem OnlyClaims.latched_subset {s t : State} (h : OnlyClaims s t) : s.ptu.latched ⊆ t.ptu.latched :=
  latched_subset_of_eq (by rw [h]; rfl)

theorem Ptu.onset_latched_subset (x : Source) (s : State) : s.ptu.latched ⊆ (Ptu.onset x s).1.ptu.latched :=
  fun y => Ptu.onset_mem x y s

theorem Ptu.condition_latched_subset (x : Source) (s : State) :
    s.ptu.latched ⊆ (Ptu.condition x s).1.ptu.latched := by
  unfold Ptu.condition
  split
  · exact List.Subset.refl _
  · exact Ptu.onset_latched_subset x s

theorem Ptu.onBreaker_latched (b : BreakerState) (s : State) :
    (Ptu.onBreaker b s).1.ptu.latched = s.ptu.latched := by
  unfold Ptu.onBreaker; split <;> rfl

theorem Ptu.onSeq_latched (old new : SeqState) (s : State) :
    (Ptu.onSeq old new s).1.ptu.latched = s.ptu.latched := by
  unfold Ptu.onSeq; simp only; split <;> rfl

/-- Only the protection unit's own answer to a hand-off changes the latched set, and it only adds to it. -/
theorem handle_latched_subset (x : Handoff) (s : State) : s.ptu.latched ⊆ (handle x s).1.ptu.latched := by
  cases x with
  | psmEngage => exact (Psm.engageRequest_only s).latched_subset
  | psmRelease => exact (Psm.releaseRequest_only s).latched_subset
  | psmAwaitDead => exact (Psm.awaitDead_only s).latched_subset
  | psmLive => exact (Psm.reevaluate_only s).latched_subset
  | esdOpen => exact (Esd.openRequest_only s).latched_subset
  | esdClose => exact (Esd.closeRequest_only s).latched_subset
  | esdWithdraw => exact (Esd.withdraw_only s).latched_subset
  | bkdOpen | bkdTrip => exact (Bkd.take_only _ s).latched_subset
  | bkdRetest => exact (Bkd.retest_only s).latched_subset
  | bkdClose => exact (Bkd.closeOrder_only s).latched_subset
  | bkdSlot held => exact (Bkd.slot_only held s).latched_subset
  | bkdSeq old new => exact (Bkd.onSeq_only old new s).latched_subset
  | ptuOnset y => exact Ptu.onset_latched_subset y s
  | ptuCondition y => exact Ptu.condition_latched_subset y s
  | ptuBreaker b => exact (Ptu.onBreaker_latched b s).symm ▸ List.Subset.refl _
  | ptuSeq old new => exact (Ptu.onSeq_latched old new s).symm ▸ List.Subset.refl _
  | spvSeq new =>
    show _ ⊆ (Spv.onSeq new s).1.ptu.latched
    unfold Spv.onSeq; split <;> exact latched_subset_of_eq rfl
  | sycReady =>
    show _ ⊆ (Syc.onReady s).1.ptu.latched
    unfold Syc.onReady; split <;> exact latched_subset_of_eq rfl
  | pnlRefused =>
    show _ ⊆ (Pnl.refused s).1.ptu.latched
    unfold Pnl.refused; split <;> exact latched_subset_of_eq rfl
  | atuSources =>
    show _ ⊆ (Atu.evaluate s).1.ptu.latched
    unfold Atu.evaluate; split <;> exact latched_subset_of_eq rfl
  | csqNotice y => exact (Csq.notice_only y s).latched_subset
  | csqBreaker b => exact (Csq.onBreaker_only b s).latched_subset
  | csqCloseAccepted => exact (Csq.closeAccepted_only s).latched_subset
  | csqCloseFailed => exact (Csq.closeFailed_only s).latched_subset
  | csqAntiPumpEnded => exact (Csq.antiPumpEnded_only s).latched_subset
  | csqLatchFail => exact (Csq.latchFail_only s).latched_subset
  | csqPlugDisturbed => exact (Csq.plugDisturbed_only s).latched_subset
  | csqLatchesReleased => exact (Csq.latchesReleased_only s).latched_subset
  | csqSlotHeld => exact (Csq.slotHeld_only s).latched_subset
  | csqDeadConfirmed => exact (Csq.deadConfirmed_only s).latched_subset
  | csqDeadWithdrawn => exact (Csq.deadWithdrawn_only s).latched_subset
  | csqNegative => exact (Csq.negative_only s).latched_subset
  | csqShoreLoss => exact (Csq.shoreLoss_only s).latched_subset
  | csqLinkLoss => exact (Csq.linkLoss_only s).latched_subset
  | csqEntered n => exact (Csq.entered_only n s).latched_subset
  | slcPlug m => exact (Slc.plug_only m s).latched_subset
  | slcOrder m => exact (Slc.orderMsg_only m s).latched_subset
  | slcCeiling => exact (Slc.presented_only s).latched_subset
  | tbcStatus => exact (Tbc.statusChanged_only s).latched_subset
  | cluFloor => exact (Clu.requestFloor_only s).latched_subset
  | cluWithdrawFloor => exact (Clu.withdrawFloor_only s).latched_subset
  | cluStep => exact (Clu.requestStep_only s).latched_subset
  | cluWithdrawStep => exact (Clu.withdrawStep_only s).latched_subset
  | cluFreeStep => exact (Clu.freeStep_only s).latched_subset
  | cluRelease => exact (Clu.release_only s).latched_subset
  | cluAttempt => exact (Clu.attempt_only s).latched_subset
  | cluDecision d => exact (Clu.decide_only d s).latched_subset
  | cluBusLost | cluDuplicate => exact (Clu.abandon_only s).latched_subset
  | cluCompleted b => exact (Clu.onCompleted_only b s).latched_subset
  | shcSeq old new => exact (Shc.onSeq_only old new s).latched_subset
  | shcPass => exact (Shc.runPass_only s).latched_subset
  | sycSeq | csqLatchesEngaged | csqSwitch | csqFloorHeld | csqPermit | csqPermitWithdrawn | tbcOrder | shcFloor =>
    exact latched_subset_of_eq rfl

/-- Nothing that falls due takes a source out of the latched set. -/
theorem due_latched_subset {s : State} {o : Out} (h : s.due = some o) : s.ptu.latched ⊆ o.1.ptu.latched := by
  rcases due_cases h with h | h | h | h | h
  · exact (Esd.due_only s o h).latched_subset
  · rw [Psm.due_eq h]; exact (Psm.carryOutRelease_only s).latched_subset
  · rw [Esd.ownRequest_eq h]; exact (Esd.closeRequest_only s).latched_subset
  · exact (Csq.due_only s o h).latched_subset
  · rw [Tbc.due_eq h]; exact (Tbc.begin_only s).latched_subset

/-- A source that the first hand-off of an answer leaves latched is latched when the command has run its course. -/
theorem Out.conclude_latched_of_head {x : Source} {h : Handoff} {rest : List Handoff} {s : State}
    (hx : x ∈ (handle h s).1.ptu.latched) : x ∈ (Out.conclude (s, h :: rest)).ptu.latched := by
  have hh : ∀ y t, x ∈ t.ptu.latched → x ∈ (handle y t).1.ptu.latched :=
    fun y t hy => handle_latched_subset y t hy
  have hrun : x ∈ (Out.run (s, h :: rest)).ptu.latched := by
    rw [Out.run_cons]
    exact drain_keeps (fun t => x ∈ t.ptu.latched) hh _ _ _ hx
  unfold Out.conclude
  rw [State.refresh_ptu]
  split
  · exact settle_keeps (fun t => x ∈ t.ptu.latched) hh (fun _ _ hd ht => due_latched_subset hd ht) _ _ hrun
  · exact hrun

/-- After its onset a source is latched. -/
theorem Ptu.onset_self_mem (x : Source) (s : State) : x ∈ (Ptu.onset x s).1.ptu.latched := by
  obtain ⟨hx, -⟩ | ⟨-, -, e, -⟩ := Ptu.onset_cases x s
  · exact Ptu.onset_mem x x s hx
  · rw [e]; exact List.mem_append_right _ (List.mem_singleton_self x)

/-! ### The plug set monitor: the hand-offs of new values -/

/-- What the monitor reports is handed on. -/
theorem Psm.mem_take_of_mem {h : Handoff} {reports : List Handoff} (p : Psm) (s : State) (hr : h ∈ reports) :
    h ∈ (Psm.take p reports s).2 := by
  simp [Psm.take, hr]

/-- A plug disturbance is handed on exactly when it is reported: none of the monitor's own hand-offs is one. -/
theorem Psm.csqPlugDisturbed_mem_take (p : Psm) (reports : List Handoff) (s : State) :
    .csqPlugDisturbed ∈ (Psm.take p reports s).2 ↔ .csqPlugDisturbed ∈ reports := by
  simp [Psm.take]

/-- R8: the onset of PILOT-LOSS is the first of the hand-offs. -/
theorem Psm.take_pilotLoss_head (p : Psm) (reports : List Handoff) (s : State) (hp : p.lossWhileLive = true)
    (hl : p.live = true) (hs : s.psm.lossWhileLive = false) :
    ∃ rest, (Psm.take p reports s).2 = .ptuCondition .pilotLoss :: rest := by
  simp [Psm.take, hp, hl, hs]

/-- A change of an input line followed by new values of the monitor changes those two alone. -/
theorem OnlyPsm.eq_setPins_setPsm {s t : State} {v : Pins} (h : OnlyPsm (s.setPins v) t) :
    t = (s.setPins t.pins).setPsm t.psm := by
  have hv : t.pins = v := by rw [h]; rfl
  rw [hv]; exact h

/-! ### The plug set monitor: a loss -/

section Loss

variable (p : Psm) (s : State)

theorem Psm.loss_of_live (h : s.psm.live = true) : Psm.loss p s = Psm.take { p with lossWhileLive := true } [] s := by
  simp [Psm.loss, h]

theorem Psm.loss_of_dead (h : s.psm.live = false) :
    Psm.loss p s = Psm.take p (if s.csq.state.disturbable then [.csqPlugDisturbed] else []) s := by
  simp [Psm.loss, h]

theorem Psm.loss_only : OnlyPsm s (Psm.loss p s).1 := by
  unfold Psm.loss; split <;> exact Psm.take_only _ _ s

theorem Psm.loss_plugs : (Psm.loss p s).1.psm.plugs = p.plugs := by
  unfold Psm.loss; split <;> rfl

/-- R8, LIVE set: no plug disturbance is reported. -/
theorem Psm.loss_live_undisturbed (h : s.psm.live = true) : .csqPlugDisturbed ∉ (Psm.loss p s).2 := by
  rw [Psm.loss_of_live p s h, Psm.csqPlugDisturbed_mem_take]; simp

/-- R8, LIVE set: LOSS-WHILE-LIVE is set, and a first such loss latches PILOT-LOSS. -/
theorem Psm.loss_live_latches (h : s.psm.live = true) (hp : p.live = true) (hw : s.psm.lossWhileLive = false) :
    (Psm.loss p s).1.psm.lossWhileLive = true ∧ .pilotLoss ∈ (Psm.loss p s).conclude.ptu.latched := by
  rw [Psm.loss_of_live p s h]
  refine ⟨by simp [hp], ?_⟩
  obtain ⟨rest, hrest⟩ := Psm.take_pilotLoss_head { p with lossWhileLive := true } [] s rfl hp hw
  rw [← Prod.mk.eta (p := Psm.take _ _ _), hrest]
  exact Out.conclude_latched_of_head (Ptu.onset_self_mem .pilotLoss _)

/-- R8, LIVE clear: LOSS-WHILE-LIVE is clear, and the sequencer state decides whether a disturbance is reported. -/
theorem Psm.loss_dead_reports (h : s.psm.live = false) (hp : p.live = false) :
    (Psm.loss p s).1.psm.lossWhileLive = false ∧
      (.csqPlugDisturbed ∈ (Psm.loss p s).2 ↔ s.csq.state.disturbable = true) := by
  rw [Psm.loss_of_dead p s h, Psm.csqPlugDisturbed_mem_take]
  exact ⟨by simp [hp], by simp⟩

end Loss

/-! ### The plug set monitor: its commands, case by case -/

theorem State.setPins_figs (s : State) (v : Pins) : (s.setPins v).figs = s.figs := rfl

/-- A change of an input line makes nothing due. -/
theorem State.settled_setPins {s : State} (v : Pins) (h : s.settled = true) : (s.setPins v).settled = true :=
  settled_congr (s := s) rfl rfl rfl h

section Commands

variable {s : State} {i : PlugNo}

theorem Psm.validated_of_runs (h : (s.psm.plugs.get i).validation.isSome = true) :
    Psm.validated i s =
      Psm.take { s.psm with
        plugs := s.psm.plugs.set i { s.psm.plugs.get i with pilot := .made, validation := none } } [] s := by
  simp [Psm.validated, h]

theorem Psm.earthchk_of_running (passing : Bool) (h : s.running = true) :
    Psm.earthchk passing s =
      Psm.take { s.psm with earthPassing := passing }
        (if s.psm.earthPassing && !passing && !s.psm.live && s.csq.state.disturbable then [.csqPlugDisturbed] else [])
        (s.setPins { s.pins with earthchk := passing }) := by
  simp [Psm.earthchk, h]

/-- R4: a feedback of a latch commanded FREE changes the line alone. -/
theorem Psm.latchFeedback_of_free (feedback : Bool) (h : (s.psm.plugs.get i).engaged = false) :
    Psm.latchFeedback i feedback s = (s.setPins { s.pins with lfb := s.pins.lfb.set i feedback }, []) := by
  simp [Psm.latchFeedback, h]

/-- R4: a confirmed latch whose feedback drops is a loss. -/
theorem Psm.latchFeedback_of_drop (hr : s.running = true) (hi : inPlugSet s.figs.np i = true)
    (he : (s.psm.plugs.get i).engaged = true) (hc : (s.psm.plugs.get i).confirmed = true) :
    Psm.latchFeedback i false s =
      Psm.loss { s.psm with plugs := s.psm.plugs.set i { s.psm.plugs.get i with confirmed := false } }
        (s.setPins { s.pins with lfb := s.pins.lfb.set i false }) := by
  simp [Psm.latchFeedback, State.setPins_figs, hr, hi, he, hc]

/-- R4, R5: a feedback ENGAGED confirms the latch, and the last one of the set ends a running engage operation. -/
theorem Psm.latchFeedback_of_engaged (hr : s.running = true) (hi : inPlugSet s.figs.np i = true)
    (he : (s.psm.plugs.get i).engaged = true) :
    let plugs := s.psm.plugs.set i { s.psm.plugs.get i with confirmed := true }
    let t := s.setPins { s.pins with lfb := s.pins.lfb.set i true }
    Psm.latchFeedback i true s =
      if s.psm.engage.isSome && plugs.allIn s.figs.np (fun q => q.confirmed) then
        Psm.take { s.psm with plugs := plugs, engage := none } [.csqLatchesEngaged] t
      else Psm.take { s.psm with plugs := plugs } [] t := by
  simp [Psm.latchFeedback, State.setPins_figs, hr, hi, he]

theorem Psm.engageExpired_of_runs (h : s.psm.engage.isSome = true) :
    Psm.engageExpired s = (s.setPsm { s.psm with engage := none }, [.csqLatchFail]) := if_pos h

theorem Psm.deadExpired_of_runs (h : s.psm.deadTimer.isSome = true) :
    Psm.deadExpired s = (s.setPsm { s.psm with deadTimer := none, dead1s := true }, []) := if_pos h

end Commands

/-- R3: a plug of the set whose latch is not confirmed keeps set-held false. -/
theorem State.setHeld_of_unconfirmed {s : State} {i : PlugNo} (hi : inPlugSet s.figs.np i = true)
    (h : (s.psm.plugs.get i).confirmed = false) : s.setHeld = false := by
  have hall : s.psm.plugs.allIn s.figs.np (fun q => q.confirmed) = false := by
    rw [Bool.eq_false_iff, ne_eq, Four.allIn_iff]
    exact fun hall => Bool.false_ne_true (h.symm.trans (hall i hi))
  simp [State.setHeld, hall]

/-! ### The statement, clause by clause -/

/-- R1, R3: the effect of a validation expiry. -/
theorem Psm.validated_makes {s : State} {i : PlugNo} (h : (s.psm.plugs.get i).validation.isSome = true) :
    let o := Psm.validated i s
    (o.1.psm.plugs.get i).pilot = .made ∧ (o.1.psm.plugs.get i).validation = none ∧
      o.1.psm.setState = o.1.psm.derivedSet s.figs.np ∧ o.1 = s.setPsm o.1.psm := by
  intro o
  have ho : o = _ := Psm.validated_of_runs h
  rw [ho]
  exact ⟨by simp, by simp, rfl, Psm.take_only _ _ s⟩

/-- R2, R3, R9: the effect of a change of the earth check. -/
theorem Psm.earthchk_derives {s : State} (passing : Bool) (h : s.running = true) :
    let o := Psm.earthchk passing s
    o.1 = (s.setPins o.1.pins).setPsm o.1.psm ∧ o.1.psm.earthPassing = passing ∧
      o.1.conditionPresent .earthContinuity = (!passing && o.1.psm.live) ∧
      o.1.pins = { s.pins with earthchk := passing } ∧ o.1.psm.plugs = s.psm.plugs ∧
      o.1.psm.setState = o.1.psm.derivedSet s.figs.np := by
  intro o
  have ho : o = _ := Psm.earthchk_of_running passing h
  rw [ho]
  exact ⟨(Psm.take_only ..).eq_setPins_setPsm, rfl, rfl, rfl, rfl, rfl⟩

/-- R4, R5: the effect of a confirming feedback. -/
theorem Psm.latchFeedback_confirms {s : State} {i : PlugNo} (hr : s.running = true)
    (hi : inPlugSet s.figs.np i = true) (he : (s.psm.plugs.get i).engaged = true) :
    let o := Psm.latchFeedback i true s
    o.1 = (s.setPins o.1.pins).setPsm o.1.psm ∧ (o.1.psm.plugs.get i).confirmed = true ∧
      (s.psm.engage.isSome = true → o.1.psm.plugs.allIn s.figs.np (fun q => q.confirmed) = true →
        o.1.psm.engage = none ∧ .csqLatchesEngaged ∈ o.2) := by
  intro o
  have ho : o = _ := Psm.latchFeedback_of_engaged hr hi he
  split at ho
  next =>
    rw [ho]
    exact ⟨(Psm.take_only ..).eq_setPins_setPsm, by simp, fun _ _ =>
      ⟨by simp, Psm.mem_take_of_mem _ _ (List.mem_singleton_self _)⟩⟩
  next hlast =>
    rw [ho]
    exact ⟨(Psm.take_only ..).eq_setPins_setPsm, by simp, fun hg hall =>
      absurd (Bool.and_eq_true_iff.mpr ⟨hg, hall⟩) hlast⟩

/-- R4, R8: the effect of a latch loss. -/
theorem Psm.latchFeedback_loses {s : State} {i : PlugNo} (hr : s.running = true) (hi : inPlugSet s.figs.np i = true)
    (he : (s.psm.plugs.get i).engaged = true) (hc : (s.psm.plugs.get i).confirmed = true) :
    let o := Psm.latchFeedback i false s
    o.1 = (s.setPins o.1.pins).setPsm o.1.psm ∧
      o.1.psm.plugs = s.psm.plugs.set i { s.psm.plugs.get i with confirmed := false } ∧ o.1.setHeld = false ∧
      (s.psm.live = true → .csqPlugDisturbed ∉ o.2) ∧
      (s.psm.live = true → s.psm.lossWhileLive = false →
        o.1.psm.lossWhileLive = true ∧ .pilotLoss ∈ o.conclude.ptu.latched) ∧
      (s.psm.live = false →
        o.1.psm.lossWhileLive = false ∧ (.csqPlugDisturbed ∈ o.2 ↔ s.csq.state.disturbable = true)) := by
  intro o
  have ho : o = _ := Psm.latchFeedback_of_drop hr hi he hc
  have honly : o.1 = (s.setPins o.1.pins).setPsm o.1.psm := by
    rw [ho]; exact (Psm.loss_only _ _).eq_setPins_setPsm
  have hplugs : o.1.psm.plugs = s.psm.plugs.set i { s.psm.plugs.get i with confirmed := false } := by
    rw [ho]; exact Psm.loss_plugs _ _
  have hheld : o.1.setHeld = false :=
    State.setHeld_of_unconfirmed (i := i) (by rw [honly]; exact hi) (by rw [hplugs, Four.get_set_self])
  refine ⟨honly, hplugs, hheld, fun hl => ?_, fun hl hw => ?_, fun hl => ?_⟩ <;> rw [ho]
  · exact Psm.loss_live_undisturbed _ _ hl
  · exact Psm.loss_live_latches _ _ hl hl hw
  · exact Psm.loss_dead_reports _ _ hl hl

/-- Settles O10: each command of the plug set monitor by the equation of its case, and the latch loss by what every loss
does (R8). -/
theorem plugSetFollowsItsInputs : Obligations.PlugSetFollowsItsInputs := by
  intro s
  refine ⟨fun i hv => ?validated, fun passing hr => ?earthchk, fun i hr hi he _ => ?confirms,
    fun i hr hi he hc => ?loses, fun i feedback hs he => ?free, fun hg => ?engage, fun hd => ?dead⟩
  case validated => exact ⟨rfl, Psm.validated_makes hv⟩
  case earthchk => exact ⟨rfl, Psm.earthchk_derives passing hr⟩
  case confirms => exact ⟨rfl, Psm.latchFeedback_confirms hr hi he⟩
  case loses => exact ⟨rfl, Psm.latchFeedback_loses hr hi he hc⟩
  case free =>
    show Host.Outcome.next (Psm.latchFeedback i feedback s).conclude = _
    rw [Psm.latchFeedback_of_free feedback he]
    exact congrArg _ (Out.conclude_settled _ (State.settled_setPins _ hs))
  case engage =>
    show Host.Outcome.next (Psm.engageExpired s).conclude = _
    rw [Psm.engageExpired_of_runs hg]
  case dead =>
    show Host.Outcome.next (Psm.deadExpired s).conclude = _
    rw [Psm.deadExpired_of_runs hd]

end Sys2Proof.Machine

/-!
# The CONNECT press and the ship's requests of a release (chapter 3, R40, R51 to R54, R59, R61)

In five parts: the modes; how a button press and a ship request reach the sequencer; how a procedure ends and what the
way out of a transfer keeps; what the sequencer answers to each of the four in each of its cases; and the statements.
-/

namespace Sys2Proof.Machine

/-! ### Modes -/

theorem State.modeAvailable_closed_iff (s : State) :
    s.modeAvailable .closed = true ↔ s.figs.allowClosed = true ∧ s.slc.offersClosed = true := Bool.and_eq_true_iff

theorem State.modeAvailable_opened_iff (s : State) :
    s.modeAvailable .opened = true ↔ s.figs.allowOpen = true ∧ s.slc.offersOpen = true := Bool.and_eq_true_iff

/-- R40: with CLOSED preferred, each mode is chosen exactly where it is the first available one. -/
theorem State.chooseMode_closed_iff (s : State) :
    (s.chooseMode .closed = .closed ↔ s.modeAvailable .closed = true) ∧
      (s.chooseMode .closed = .opened ↔ ¬s.modeAvailable .closed = true ∧ s.modeAvailable .opened = true) ∧
      (s.chooseMode .closed = .none ↔ ¬s.modeAvailable .closed = true ∧ ¬s.modeAvailable .opened = true) := by
  by_cases hc : s.modeAvailable .closed = true
  · simp [State.chooseMode, hc]
  · by_cases ho : s.modeAvailable .opened = true <;> simp [State.chooseMode, Mode.other, hc, ho]

/-! ### How a press and a request reach the sequencer -/

/-- The state in which the press of a button is reported (R172): its validator has gone to HELD. -/
def State.pressed (b : Button) (s : State) : State :=
  s.setPnl (s.pnl.setValidator b { s.pnl.validator b with state := .held, settle := none })

theorem Pnl.press_of_settling {b : Button} (report : State → Out) {s : State}
    (h : (s.pnl.validator b).settle.isSome = true) : Pnl.press b report s = report (s.pressed b) := if_pos h

/-- The state in which a request of the ship is passed on (R117, R122): the receiver hunts, the silence timer starts
anew. -/
def State.requested (s : State) : State := s.setSlc { s.slc with rx := .hunting, gap := none, silence := some 5000 }

@[simp] theorem State.requested_figs (s : State) : s.requested.figs = s.figs := rfl
@[simp] theorem State.requested_modeAvailable (m : Mode) (s : State) :
    s.requested.modeAvailable m = s.modeAvailable m := by cases m <;> rfl

theorem Slc.message_request_of_up (f : State → Out) {s : State} (h : s.slc.link = .up) :
    Slc.message (Slc.request f) s = f s.requested := by
  simp [Slc.message, Slc.request, State.requested, h]

/-- A request that the sequencer alone deals with leaves the silence timer started anew and every other block as it
was. -/
theorem OnlyCsq.of_requested {s t : State} (h : OnlyCsq s.requested t) :
    t.slc.silence = some 5000 ∧ t = (s.setSlc t.slc).setCsq t.csq := by
  have hslc : t.slc = s.requested.slc := by rw [h]; rfl
  rw [hslc]
  exact ⟨rfl, h⟩

/-! ### Ends of a procedure -/

theorem Csq.endProc_of_some (e : Ending) (c : Cause) {s : State} {p : Procedure} (h : s.csq.proc = some p) :
    Csq.endProc e c s =
      (s.setCsq (s.csq.write (s.recordNow p.kind.record e c p.mode p.start)),
        .atuSources :: (if answeredRefused p.kind e then [.slcOrder (.refused c)] else [])) := by
  simp [Csq.endProc, h]

/-- HOOKED and VACANT are entered with the procedure and the log as they were. -/
theorem Csq.enterRest_keeps (s : State) :
    (Csq.enterRest s).1.csq.proc = s.csq.proc ∧ (Csq.enterRest s).1.csq.log = s.csq.log := by
  unfold Csq.enterRest; split <;> exact ⟨rfl, rfl⟩

/-- The way out of a transfer keeps the procedure and the log, whichever way it is, and withdraws every request. -/
theorem Csq.wayOut_keeps_withdraws (trip : Bool) (o : Out) :
    (Csq.wayOut trip o).1.csq.proc = o.1.csq.proc ∧ (Csq.wayOut trip o).1.csq.log = o.1.csq.log ∧
      ∀ h ∈ withdrawals, h ∈ (Csq.wayOut trip o).2 := by
  unfold Csq.wayOut
  split
  next =>
    obtain ⟨hproc, hlog⟩ := Csq.enterRest_keeps o.1
    exact ⟨hproc, hlog, fun h hw => by simp [hw]⟩
  next => exact ⟨rfl, rfl, fun h hw => by simp [hw]⟩

/-- R61: a supersession ends the procedure with its record and withdraws every request. -/
theorem Csq.supersede_of_some (c : Cause) {s : State} {p : Procedure} (h : s.csq.proc = some p) :
    (Csq.supersede c s).1.csq.proc = none ∧
      (∀ x ∈ withdrawals, x ∈ (Csq.supersede c s).2) ∧
      (Csq.supersede c s).1.csq.log =
        appendRecord s.csq.log (s.recordNow p.kind.record .superseded c p.mode p.start) := by
  obtain ⟨hproc, hlog, hwithdrawn⟩ := Csq.wayOut_keeps_withdraws false (Csq.endProc .superseded c s)
  have hend := Csq.endProc_of_some .superseded c h
  exact ⟨hproc.trans (by rw [hend]; rfl), hwithdrawn, hlog.trans (by rw [hend]; rfl)⟩

/-! ### A CONNECT press -/

section Connect

variable {s : State}

/-- R40: the press is accepted. -/
theorem Csq.connect_of_acceptable (hstate : s.csq.state = .hooked) (hup : s.slc.link = .up)
    (hlatched : s.ptu.latched = []) (hmode : s.chooseMode .closed ≠ .none) :
    Csq.connect s =
      ((Csq.openProc .transferIn (s.chooseMode .closed) none
        (s.setCsq { s.csq with mask := false, retry := 0 })).emit [.atuSources]).andThen
          (Csq.enterProving (s.chooseMode .closed)) := by
  simp [Csq.connect, hstate, hup, hlatched, hmode]

/-- R51: the press is the cancel of a release. -/
theorem Csq.connect_of_releaseWait (hstate : s.csq.state = .releaseWait) {p : Procedure}
    (hproc : s.csq.proc = some p) :
    let t := s.setCsq { s.csq with releaseDelay := none }
    Csq.connect s =
      Out.andThen (t.setCsq (t.csq.write (s.recordNow p.kind.record .superseded .operator p.mode p.start)),
        .slcOrder (.release true) :: .atuSources ::
          (if answeredRefused p.kind .superseded then [.slcOrder (.refused .operator)] else []))
        Csq.returnToShore := by
  intro t
  let e := Csq.endProc .superseded .operator t
  have hconnect : Csq.connect s = Out.andThen (e.1, .slcOrder (.release true) :: e.2) Csq.returnToShore := by
    simp [Csq.connect, hstate, e, t]
  have hend : e = _ := Csq.endProc_of_some .superseded .operator (s := t) hproc
  rw [hconnect, hend]
  rfl

/-- R40: outside HOOKED and RELEASE-WAIT, and in HOOKED where a condition of the acceptance fails, the press is
refused. -/
theorem Csq.connect_of_refused (hwait : s.csq.state ≠ .releaseWait)
    (h : s.csq.state ≠ .hooked ∨ s.slc.link ≠ .up ∨ s.ptu.latched ≠ [] ∨ s.chooseMode .closed = .none) :
    Csq.connect s = (s, [.pnlRefused]) := by
  unfold Csq.connect
  split
  next hhooked =>
    have hfail := h.resolve_left (not_not_intro hhooked)
    exact if_pos (by simpa [or_assoc] using hfail)
  next hin => exact absurd hin hwait
  next => rfl

end Connect

/-! ### HANDBACK, TAKEN and ABANDON -/

section Requests

variable {s : State}

/-- R52: a HANDBACK of an available mode is taken. -/
theorem Csq.handbackMsg_of_available {m : Mode} (hstate : s.csq.state = .shore ∨ s.csq.state = .releaseWait)
    (hmode : s.modeAvailable m = true) :
    let start := (s.csq.proc.map (·.start)).getD s.csq.runTime
    let c := { s.csq with proc := some ⟨.handback, m, start, none⟩, marker := some ⟨.handback, m, start⟩ }
    let o := Csq.enter .handback (fun c => { c with phase := some 180000 }) (s.setCsq c)
    Csq.handbackMsg m s =
      (o.1, (if m == .opened then [.slcOrder (.proceed .opened s.figs.parallelLimit)] else []) ++ o.2) := by
  obtain hs | hs := hstate <;> simp [Csq.handbackMsg, hs, hmode]

theorem Csq.handbackMsg_of_unavailable {m : Mode} (hstate : s.csq.state = .shore ∨ s.csq.state = .releaseWait)
    (hmode : s.modeAvailable m = false) : Csq.handbackMsg m s = refuse .mode s := by
  obtain hs | hs := hstate <;> simp [Csq.handbackMsg, hs, hmode]

theorem Csq.handbackMsg_of_absorbing (m : Mode) (hstate : s.csq.state = .handback ∨ s.csq.state = .unloading) :
    Csq.handbackMsg m s = (s, []) := by
  obtain hs | hs := hstate <;> simp [Csq.handbackMsg, hs]

theorem Csq.handbackMsg_of_elsewhere (m : Mode)
    (hstate : s.csq.state ∉ [SeqState.shore, .releaseWait, .handback, .unloading]) :
    Csq.handbackMsg m s = refuse .sequence s := by
  unfold Csq.handbackMsg
  split <;> simp_all

/-- R55: a TAKEN in a closed HANDBACK is taken. -/
theorem Csq.takenMsg_of_closed {p : Procedure} (hstate : s.csq.state = .handback) (hproc : s.csq.proc = some p)
    (hmode : p.mode = .closed) :
    Csq.takenMsg s =
      Csq.enter .unloading
        (fun c => { c with phase := some (s.figs.parallelLimit * 1000), unloadRun := 0 }) s := by
  simp [Csq.takenMsg, hstate, hproc, hmode]

theorem Csq.takenMsg_of_unloading (hstate : s.csq.state = .unloading) : Csq.takenMsg s = (s, []) := by
  simp [Csq.takenMsg, hstate]

theorem Csq.takenMsg_of_refused
    (h : s.csq.state ∉ [SeqState.handback, .unloading] ∨
      s.csq.state = .handback ∧ s.csq.proc.map (·.mode) ≠ some .closed) :
    Csq.takenMsg s = refuse .sequence s := by
  obtain hstate | ⟨hstate, hmode⟩ := h
  · unfold Csq.takenMsg
    split <;> simp_all
  · have hnot : (s.csq.proc.any fun p => p.mode == .closed) = false := by
      cases hp : s.csq.proc <;> simp_all
    simp [Csq.takenMsg, hstate, hnot]

/-- R61: an ABANDON in a phase of a transfer supersedes it. -/
theorem Csq.abandonMsg_of_transfer (hstate : s.csq.state.transferring = true ∨ s.csq.state = .parallel) :
    Csq.abandonMsg s = Csq.supersede .shipAbandon s := by
  unfold Csq.abandonMsg
  split <;> simp_all [SeqState.transferring]

/-- R54: an ABANDON in HANDBACK ends it with the return to SHORE. -/
theorem Csq.abandonMsg_of_handback (hstate : s.csq.state = .handback) {p : Procedure}
    (hproc : s.csq.proc = some p) :
    Csq.abandonMsg s =
      Out.andThen (s.setCsq (s.csq.write (s.recordNow p.kind.record .superseded .shipAbandon p.mode p.start)),
        .atuSources :: (if answeredRefused p.kind .superseded then [.slcOrder (.refused .shipAbandon)] else []))
        Csq.returnToShore := by
  simp only [Csq.abandonMsg, hstate, Csq.endProc_of_some .superseded .shipAbandon hproc]

theorem Csq.abandonMsg_of_elsewhere (htransfer : s.csq.state.transferring = false)
    (hparallel : s.csq.state ≠ .parallel) (hhandback : s.csq.state ≠ .handback) :
    Csq.abandonMsg s = refuse .sequence s := by
  unfold Csq.abandonMsg
  split <;> simp_all [SeqState.transferring]

end Requests

/-! ### The statements -/

/-- Settles O22: the press reaches the sequencer in `s.pressed .connect`, which answers it by its three cases. -/
theorem connectStartsCancelsOrIsRefused : Obligations.ConnectStartsCancelsOrIsRefused := by
  intro s hsettle o mode closedOk openOk
  have ho : o = Csq.connect (s.pressed .connect) := Pnl.press_of_settling Csq.connect hsettle
  have honly : OnlyCsq (s.pressed .connect) o.1 := by rw [ho]; exact Csq.connect_only _
  have hpnl : o.1.pnl = (s.pressed .connect).pnl := by rw [honly]; rfl
  obtain ⟨hclosed, hopened, hnone⟩ := s.chooseMode_closed_iff
  rw [s.modeAvailable_closed_iff] at hclosed hopened hnone
  rw [s.modeAvailable_opened_iff] at hopened hnone
  refine ⟨rfl, hclosed, hopened, hnone, by rw [hpnl]; exact honly, by rw [hpnl]; rfl, by rw [hpnl]; rfl,
    fun hstate hup hlatched hmode => ?accepted, fun hstate p hproc hkind => ?cancel, fun hwait hfail => ?refused,
    fun hrun => ?flash⟩
  case accepted =>
    rw [ho, Csq.connect_of_acceptable (s := s.pressed .connect) hstate hup hlatched hmode]
    exact ⟨rfl, rfl, rfl, rfl, rfl, rfl, rfl, rfl, by simp [Csq.enterProving, stateChanged]⟩
  case cancel =>
    rw [ho, Csq.connect_of_releaseWait (s := s.pressed .connect) hstate hproc, hkind]
    exact ⟨rfl, rfl, rfl, rfl, by simp⟩
  case refused =>
    rw [ho, Csq.connect_of_refused (s := s.pressed .connect) hwait hfail]
    exact ⟨rfl, rfl⟩
  case flash => simp [handle, Pnl.refused, hrun]

/-- R52, R53: what a HANDBACK of the ship does in each sequencer state. -/
theorem handbackRequest_answers {s : State} (hup : s.slc.link = .up) (mode : Mode) :
    let o := Slc.message (Slc.request (Csq.handbackMsg mode)) s
    o.1.slc.silence = some 5000 ∧ o.1 = (s.setSlc o.1.slc).setCsq o.1.csq ∧
      (s.csq.state = .shore ∨ s.csq.state = .releaseWait → s.modeAvailable mode = true →
        o.1.csq.state = .handback ∧ o.1.csq.phase = some 180000 ∧ o.1.csq.releaseDelay = s.csq.releaseDelay ∧
        o.1.csq.proc = some ⟨.handback, mode, (s.csq.proc.map (·.start)).getD s.csq.runTime, none⟩ ∧
        (.slcOrder (.proceed .opened s.figs.parallelLimit) ∈ o.2 ↔ mode = .opened)) ∧
      (s.csq.state = .shore ∨ s.csq.state = .releaseWait → s.modeAvailable mode = false →
        o.1.csq = s.csq ∧ o.2 = [.slcOrder (.refused .mode)]) ∧
      (s.csq.state = .handback ∨ s.csq.state = .unloading → o.1.csq = s.csq ∧ o.2 = []) ∧
      (s.csq.state ∉ [SeqState.shore, .releaseWait, .handback, .unloading] →
        o.1.csq = s.csq ∧ o.2 = [.slcOrder (.refused .sequence)]) := by
  intro o
  have ho : o = Csq.handbackMsg mode s.requested := Slc.message_request_of_up _ hup
  obtain ⟨hsilence, hframe⟩ := OnlyCsq.of_requested (t := o.1) (by rw [ho]; exact Csq.handbackMsg_only _ _)
  refine ⟨hsilence, hframe, fun hstate hmode => ?taken, fun hstate hmode => ?unavailable, fun hstate => ?absorbed,
    fun hstate => ?elsewhere⟩ <;> rw [ho]
  case taken =>
    rw [Csq.handbackMsg_of_available (s := s.requested) hstate (by simpa using hmode)]
    exact ⟨rfl, rfl, rfl, rfl, by cases mode <;> simp [stateChanged]⟩
  case unavailable =>
    rw [Csq.handbackMsg_of_unavailable (s := s.requested) hstate (by simpa using hmode)]
    exact ⟨rfl, rfl⟩
  case absorbed =>
    rw [Csq.handbackMsg_of_absorbing (s := s.requested) mode hstate]
    exact ⟨rfl, rfl⟩
  case elsewhere =>
    rw [Csq.handbackMsg_of_elsewhere (s := s.requested) mode hstate]
    exact ⟨rfl, rfl⟩

/-- R52, R55: what a TAKEN of the ship does in each sequencer state. -/
theorem takenRequest_answers {s : State} (hup : s.slc.link = .up) :
    let o := Slc.message (Slc.request Csq.takenMsg) s
    o.1.slc.silence = some 5000 ∧ o.1 = (s.setSlc o.1.slc).setCsq o.1.csq ∧
      (∀ p, s.csq.state = .handback → s.csq.proc = some p → p.mode = .closed →
        o.1.csq.state = .unloading ∧ o.1.csq.phase = some (s.figs.parallelLimit * 1000) ∧ o.1.csq.unloadRun = 0 ∧
        o.1.csq.proc = some p) ∧
      (s.csq.state = .unloading → o.1.csq = s.csq ∧ o.2 = []) ∧
      (s.csq.state ∉ [SeqState.handback, .unloading] ∨
          s.csq.state = .handback ∧ s.csq.proc.map (·.mode) ≠ some .closed →
        o.1.csq = s.csq ∧ o.2 = [.slcOrder (.refused .sequence)]) := by
  intro o
  have ho : o = Csq.takenMsg s.requested := Slc.message_request_of_up _ hup
  obtain ⟨hsilence, hframe⟩ := OnlyCsq.of_requested (t := o.1) (by rw [ho]; exact Csq.takenMsg_only _)
  refine ⟨hsilence, hframe, fun p hstate hproc hmode => ?taken, fun hstate => ?absorbed, fun h => ?refused⟩ <;> rw [ho]
  case taken =>
    rw [Csq.takenMsg_of_closed (s := s.requested) hstate hproc hmode]
    exact ⟨rfl, rfl, rfl, hproc⟩
  case absorbed =>
    rw [Csq.takenMsg_of_unloading (s := s.requested) hstate]
    exact ⟨rfl, rfl⟩
  case refused =>
    rw [Csq.takenMsg_of_refused (s := s.requested) h]
    exact ⟨rfl, rfl⟩

/-- R54, R61: what an ABANDON of the ship does in each sequencer state. -/
theorem abandonRequest_answers {s : State} (hup : s.slc.link = .up) :
    let o := Slc.message (Slc.request Csq.abandonMsg) s
    o.1.slc.silence = some 5000 ∧ o.1 = (s.setSlc o.1.slc).setCsq o.1.csq ∧
      (∀ p, s.csq.state.transferring = true ∨ s.csq.state = .parallel → s.csq.proc = some p → p.kind = .transferIn →
        o.1.csq.proc = none ∧ (∀ h ∈ withdrawals, h ∈ o.2) ∧
        o.1.csq.log = appendRecord s.csq.log (s.recordNow .transferIn .superseded .shipAbandon p.mode p.start)) ∧
      (∀ p, s.csq.state = .handback → s.csq.proc = some p → p.kind = .handback →
        o.1.csq.state = .shore ∧ o.1.csq.proc = none ∧
        o.1.csq.log = appendRecord s.csq.log (s.recordNow .handback .superseded .shipAbandon p.mode p.start)) ∧
      (s.csq.state.transferring = false → s.csq.state ≠ .parallel → s.csq.state ≠ .handback →
        o.1.csq = s.csq ∧ o.2 = [.slcOrder (.refused .sequence)]) := by
  intro o
  have ho : o = Csq.abandonMsg s.requested := Slc.message_request_of_up _ hup
  obtain ⟨hsilence, hframe⟩ := OnlyCsq.of_requested (t := o.1) (by rw [ho]; exact Csq.abandonMsg_only _)
  refine ⟨hsilence, hframe, fun p hstate hproc hkind => ?transfer, fun p hstate hproc hkind => ?handback,
    fun htransfer hparallel hhandback => ?refused⟩ <;> rw [ho]
  case transfer =>
    rw [Csq.abandonMsg_of_transfer (s := s.requested) hstate]
    obtain ⟨hnone, hwithdrawn, hlog⟩ := Csq.supersede_of_some .shipAbandon (s := s.requested) hproc
    rw [hkind] at hlog
    exact ⟨hnone, hwithdrawn, hlog⟩
  case handback =>
    rw [Csq.abandonMsg_of_handback (s := s.requested) hstate hproc, hkind]
    exact ⟨rfl, rfl, rfl⟩
  case refused =>
    rw [Csq.abandonMsg_of_elsewhere (s := s.requested) htransfer hparallel hhandback]
    exact ⟨rfl, rfl⟩

/-- Settles O35: each of the three requests by its own cases. -/
theorem shipHandbackRequestsAreTaken : Obligations.ShipHandbackRequestsAreTaken := fun _ hup =>
  ⟨fun m => ⟨rfl, handbackRequest_answers hup (Mode.ofByte m)⟩, rfl, rfl, rfl, ⟨rfl, takenRequest_answers hup⟩,
    rfl, abandonRequest_answers hup⟩

end Sys2Proof.Machine

/-!
# The synchronism checker's judgement of a set (chapter 5, R84, R85)

In four parts: the conditions of R85's table; the verdict as the first of them that fails; the prediction of R84; and
what a set evaluated in SYNC-ACTIVE leaves.
-/

namespace Sys2Proof.Machine

/-! ### The conditions of a sync-good set, in the order of R85's table -/

section Conditions

variable (r : ReadingSet) (f : Figures)

/-- Condition 1: no clamp flag. -/
abbrev ReadingSet.Unclamped : Prop :=
  r.shoreVClamp = false ∧ r.shipVClamp = false ∧ r.shoreFClamp = false ∧ r.shipFClamp = false

/-- Condition 2: every ship-side voltage within its band. -/
abbrev ReadingSet.ShipVoltageInBand : Prop :=
  ∀ v ∈ [r.shipV.l1, r.shipV.l2, r.shipV.l3], 900 ≤ v ∧ v ≤ 1100

/-- Condition 3: ship and shore close on every phase pair. -/
abbrev ReadingSet.DifferenceWithin : Prop :=
  ∀ p ∈ [(r.shipV.l1, r.shoreV.l1), (r.shipV.l2, r.shoreV.l2), (r.shipV.l3, r.shoreV.l3)],
    ((p.1 : Int) - p.2).natAbs ≤ f.vDiff

/-- Condition 4. -/
abbrev ReadingSet.SlipWithin : Prop := r.df.natAbs ≤ f.slip

/-- Condition 5. -/
abbrev ReadingSet.SequencesPositive : Prop := r.shoreSeq = .positive ∧ r.shipSeq = .positive

/-- Condition 6. -/
abbrev ReadingSet.AngleWithin : Prop := (predictAngle r.theta r.df f.tClose).natAbs ≤ f.angle

theorem ReadingSet.clamp_test_iff :
    (r.shoreVClamp || r.shipVClamp || r.shoreFClamp || r.shipFClamp) = true ↔ ¬r.Unclamped := by
  simp [ReadingSet.Unclamped, ← Bool.not_eq_true, or_iff_not_imp_left]

theorem ReadingSet.shipVoltage_test_iff :
    (!r.shipV.all fun v => 900 ≤ v && v ≤ 1100) = true ↔ ¬r.ShipVoltageInBand := by
  rw [Bool.not_eq_true', ← Bool.not_eq_true]
  simp [Three.all, ReadingSet.ShipVoltageInBand, and_assoc]

theorem ReadingSet.difference_test_iff :
    (!(voltDiff r.shipV.l1 r.shoreV.l1 ≤ f.vDiff && voltDiff r.shipV.l2 r.shoreV.l2 ≤ f.vDiff &&
      voltDiff r.shipV.l3 r.shoreV.l3 ≤ f.vDiff)) = true ↔ ¬r.DifferenceWithin f := by
  rw [Bool.not_eq_true', ← Bool.not_eq_true]
  simp only [Bool.and_eq_true, decide_eq_true_eq]
  simp [voltDiff, ReadingSet.DifferenceWithin, and_assoc]

theorem ReadingSet.sequence_test_iff :
    (!(r.shoreSeq == .positive && r.shipSeq == .positive)) = true ↔ ¬r.SequencesPositive := by
  rw [Bool.not_eq_true', ← Bool.not_eq_true, Bool.and_eq_true, beq_iff_eq, beq_iff_eq]

end Conditions

/-! ### The verdict is the first condition that fails -/

section FirstFailing

variable (c₁ c₂ c₃ c₄ c₅ c₆ : Prop) [Decidable c₁] [Decidable c₂] [Decidable c₃] [Decidable c₄] [Decidable c₅]
  [Decidable c₆]

/-- R85: the verdict of the six conditions tested in order, whatever they are. -/
def firstFailing : Verdict :=
  if ¬c₁ then .clamp
  else if ¬c₂ then .shipVoltage
  else if ¬c₃ then .difference
  else if ¬c₄ then .slip
  else if ¬c₅ then .sequence
  else if ¬c₆ then .angle
  else .none

theorem firstFailing_iff :
    (firstFailing c₁ c₂ c₃ c₄ c₅ c₆ = .clamp ↔ ¬c₁) ∧
      (firstFailing c₁ c₂ c₃ c₄ c₅ c₆ = .shipVoltage ↔ c₁ ∧ ¬c₂) ∧
      (firstFailing c₁ c₂ c₃ c₄ c₅ c₆ = .difference ↔ c₁ ∧ c₂ ∧ ¬c₃) ∧
      (firstFailing c₁ c₂ c₃ c₄ c₅ c₆ = .slip ↔ c₁ ∧ c₂ ∧ c₃ ∧ ¬c₄) ∧
      (firstFailing c₁ c₂ c₃ c₄ c₅ c₆ = .sequence ↔ c₁ ∧ c₂ ∧ c₃ ∧ c₄ ∧ ¬c₅) ∧
      (firstFailing c₁ c₂ c₃ c₄ c₅ c₆ = .angle ↔ c₁ ∧ c₂ ∧ c₃ ∧ c₄ ∧ c₅ ∧ ¬c₆) ∧
      (firstFailing c₁ c₂ c₃ c₄ c₅ c₆ = .none ↔ c₁ ∧ c₂ ∧ c₃ ∧ c₄ ∧ c₅ ∧ c₆) := by
  by_cases h₁ : c₁
  case neg => simp [firstFailing, h₁]
  by_cases h₂ : c₂
  case neg => simp [firstFailing, h₁, h₂]
  by_cases h₃ : c₃
  case neg => simp [firstFailing, h₁, h₂, h₃]
  by_cases h₄ : c₄
  case neg => simp [firstFailing, h₁, h₂, h₃, h₄]
  by_cases h₅ : c₅
  case neg => simp [firstFailing, h₁, h₂, h₃, h₄, h₅]
  by_cases h₆ : c₆ <;> simp [firstFailing, h₁, h₂, h₃, h₄, h₅, h₆]

end FirstFailing

/-- R85: each test of the model is the condition of the table at its place. -/
theorem ReadingSet.verdictAt_eq (r : ReadingSet) (f : Figures) :
    r.verdictAt f =
      firstFailing r.Unclamped r.ShipVoltageInBand (r.DifferenceWithin f) (r.SlipWithin f) r.SequencesPositive
        (r.AngleWithin f) :=
  if_congr r.clamp_test_iff rfl <| if_congr r.shipVoltage_test_iff rfl <| if_congr (r.difference_test_iff f) rfl <|
    if_congr Nat.not_le.symm rfl <| if_congr r.sequence_test_iff rfl <| if_congr Nat.not_le.symm rfl rfl

/-- Settles O19: the verdict is the first failing one of the table's conditions. -/
theorem syncGoodMeetsEveryCondition : Obligations.SyncGoodMeetsEveryCondition := by
  intro r f
  rw [r.verdictAt_eq f]
  exact firstFailing_iff _ _ _ _ _ _

/-! ### The predicted angle -/

/-- R84: the product is at most 36 × 500 × 200 in magnitude, so the advance is at most 360. -/
theorem advance_natAbs_le {df : Int} {tClose : Nat} (hdf : df.natAbs ≤ 500) (ht : tClose ≤ 200) :
    ((36 * df * tClose).tdiv 10000).natAbs ≤ 360 := by
  have hproduct : df.natAbs * tClose ≤ 500 * 200 := Nat.mul_le_mul hdf ht
  calc ((36 * df * tClose).tdiv 10000).natAbs
      = 36 * (df.natAbs * tClose) / 10000 := by
        rw [Int.natAbs_tdiv, mul_assoc, Int.natAbs_mul, Int.natAbs_mul, Int.natAbs_natCast]; rfl
    _ ≤ 360 := by omega

/-- R84: one whole turn at most brings the sum into range. -/
theorem predictAngle_of_advance {theta df : Int} {tClose : Nat} (hlow : -1799 ≤ theta) (hhigh : theta ≤ 1800)
    (hadvance : ((36 * df * tClose).tdiv 10000).natAbs ≤ 360) :
    -1799 ≤ predictAngle theta df tClose ∧ predictAngle theta df tClose ≤ 1800 ∧
      (predictAngle theta df tClose - (theta + (36 * df * tClose).tdiv 10000) = 0 ∨
        (predictAngle theta df tClose - (theta + (36 * df * tClose).tdiv 10000)).natAbs = 3600) := by
  unfold predictAngle
  generalize (36 * df * tClose).tdiv 10000 = advance at hadvance
  dsimp only
  split_ifs <;> omega

/-! ### What a set evaluated in SYNC-ACTIVE leaves -/

section Evaluate

variable {r : ReadingSet} {f : Figures}

theorem ReadingSet.figuresAt_of_clamped (hclamp : r.shoreFClamp = true ∨ r.shipFClamp = true) :
    r.figuresAt f = (none, none) := if_pos (Bool.or_eq_true_iff.mpr hclamp)

theorem ReadingSet.figuresAt_of_unclamped (hclamp : ¬(r.shoreFClamp = true ∨ r.shipFClamp = true)) :
    r.figuresAt f =
      (some r.df, if r.SlipWithin f then some (predictAngle r.theta r.df f.tClose) else none) := by
  rw [ReadingSet.figuresAt, if_neg (mt Bool.or_eq_true_iff.mp hclamp)]
  by_cases hslip : r.SlipWithin f
  · rw [if_neg (Nat.not_lt.mpr hslip), if_pos hslip]
  · rw [if_pos (Nat.not_le.mp hslip), if_neg hslip]

/-- R85: a sync-good set has no clamp flag and its slip is within the limit. -/
theorem ReadingSet.of_verdictAt_none (h : r.verdictAt f = .none) :
    r.Unclamped ∧ r.SlipWithin f := by
  obtain ⟨-, -, -, -, -, -, hnone⟩ := syncGoodMeetsEveryCondition r f
  obtain ⟨hunclamped, -, -, hslip, -⟩ := hnone.mp h
  exact ⟨hunclamped, hslip⟩

/-- R84, R85: an evaluated set leaves its figures and its verdict. -/
theorem Syc.evaluate_judgement (y : Syc) :
    (y.evaluate r f).1.lastDf = (r.figuresAt f).1 ∧ (y.evaluate r f).1.lastPred = (r.figuresAt f).2 ∧
      (y.evaluate r f).1.verdict = r.verdictAt f := by
  unfold Syc.evaluate
  dsimp only
  split <;> exact ⟨rfl, rfl, rfl⟩

/-- R86: a failing set ends the sync-good run. -/
theorem Syc.evaluate_good_of_failing (y : Syc) (h : r.verdictAt f ≠ .none) : (y.evaluate r f).1.good = 0 := by
  simp [Syc.evaluate, h]

/-- R88: the negative-sequence run is the only item that its count changes. -/
theorem Syc.countNegative_eq (r : ReadingSet) (y : Syc) :
    (y.countNegative r).1 = { y with negative := (y.countNegative r).1.negative } := by
  unfold Syc.countNegative
  split <;> rfl

/-- R83, R84: what a set evaluated in SYNC-ACTIVE leaves of its judgement. -/
theorem Syc.onSet_judgement {s : State} (hwatch : s.syc.watch = .syncActive) :
    (Syc.onSet r false s).1.syc.lastDf = (r.figuresAt s.figs).1 ∧
      (Syc.onSet r false s).1.syc.lastPred = (r.figuresAt s.figs).2 ∧
      (Syc.onSet r false s).1.syc.verdict = r.verdictAt s.figs ∧
      (r.verdictAt s.figs ≠ .none → (Syc.onSet r false s).1.syc.good = 0) := by
  have hsyc : (Syc.onSet r false s).1.syc = ((s.syc.evaluate r s.figs).1.countNegative r).1 := by
    simp [Syc.onSet, hwatch]
  obtain ⟨hdf, hpred, hverdict⟩ := s.syc.evaluate_judgement (r := r) (f := s.figs)
  rw [hsyc, Syc.countNegative_eq]
  exact ⟨hdf, hpred, hverdict, s.syc.evaluate_good_of_failing⟩

end Evaluate

/-- Settles O17: the arithmetic of the advance and its reduction; then the set by its clamp flags and its slip. -/
theorem predictedAngleStaysInRange : Obligations.PredictedAngleStaysInRange := by
  constructor
  case left =>
    intro theta df tClose hlow hhigh hdf ht
    have hadvance := advance_natAbs_le hdf ht
    obtain ⟨hmin, hmax, hturn⟩ := predictAngle_of_advance hlow hhigh hadvance
    exact ⟨hmin, hmax, hadvance, hturn⟩
  case right =>
    intro r s hwatch y clamped df
    obtain ⟨hdf, hpred, hverdict, hgood⟩ := Syc.onSet_judgement (r := r) hwatch
    have hfails : clamped ∨ s.figs.slip < df.natAbs → r.verdictAt s.figs ≠ .none := by
      intro h hnone
      obtain ⟨⟨-, -, hshore, hship⟩, hslip⟩ := ReadingSet.of_verdictAt_none hnone
      obtain (hclamp | hclamp) | hbeyond := h
      · exact Bool.false_ne_true (hshore.symm.trans hclamp)
      · exact Bool.false_ne_true (hship.symm.trans hclamp)
      · exact Nat.not_le.mpr hbeyond hslip
    refine ⟨fun hclamp => ?clamped, fun hclamp hslip => ?beyond, fun hclamp hslip => ?within⟩
    case clamped =>
      rw [ReadingSet.figuresAt_of_clamped hclamp] at hdf hpred
      exact ⟨hdf, hpred, hverdict.trans_ne (hfails (.inl hclamp)), hgood (hfails (.inl hclamp))⟩
    case beyond =>
      rw [ReadingSet.figuresAt_of_unclamped hclamp] at hdf hpred
      exact ⟨hdf, hpred.trans (if_neg (Nat.not_le.mpr hslip)), hverdict.trans_ne (hfails (.inr hslip)),
        hgood (hfails (.inr hslip))⟩
    case within =>
      rw [ReadingSet.figuresAt_of_unclamped hclamp] at hdf hpred
      exact ⟨hdf, hpred.trans (if_pos hslip)⟩

end Sys2Proof.Machine

/-!
# The detectors count their runs (chapter 6, R100 to R105)

Detector by detector, in the order of the statement: what one set does in each case, then, for the detectors whose run
the statement follows over several sets, what k sets in a row leave; and the statement, clause by clause.
-/

namespace Sys2Proof.Machine

/-! ### Runs -/

/-- One more set of a run that stops at `top`. -/
theorem min_min_succ (top k : Nat) : min top (min top k + 1) = min top (k + 1) := by omega

/-! ### Earth fault -/

section EarthFault

variable {r : ReadingSet} {n : Nat} {p : Ptu}

theorem Ptu.detectEarthFault_of_over (h : n < r.residual) :
    p.detectEarthFault r n =
      ({ p with
          earthRun := min 5 (p.earthRun + 1)
          earthFault := p.earthFault || min 5 (p.earthRun + 1) == 5 },
        if min 5 (p.earthRun + 1) == 5 && !p.earthFault then [.ptuOnset .earthFault] else []) := if_pos h

theorem Ptu.detectEarthFault_of_atMost (h : r.residual ≤ n) :
    p.detectEarthFault r n = ({ p with earthRun := 0, earthFault := false }, []) := if_neg (Nat.not_lt.mpr h)

/-- R100: the onset comes with the set that makes the condition present. -/
theorem Ptu.detectEarthFault_onset_iff (h : n < r.residual) :
    (p.detectEarthFault r n).2 = [.ptuOnset .earthFault] ↔ 4 ≤ p.earthRun ∧ p.earthFault = false := by
  have hfifth : min 5 (p.earthRun + 1) = 5 ↔ 4 ≤ p.earthRun := by omega
  simp [Ptu.detectEarthFault_of_over h, hfifth]

/-- R100: k sets in a row over the threshold. -/
theorem Ptu.iterate_detectEarthFault (h : n < r.residual) (hrun : p.earthRun = 0) (hfault : p.earthFault = false)
    (k : Nat) :
    (fun p : Ptu => (p.detectEarthFault r n).1)^[k] p =
      { p with earthRun := min 5 k, earthFault := decide (5 ≤ k) } := by
  induction k with
  | zero =>
    show p = { p with earthRun := 0, earthFault := false }
    rw [← hrun, ← hfault]
  | succ k ih =>
    have hpresent : (decide (5 ≤ k) || min 5 (k + 1) == 5) = decide (5 ≤ k + 1) := by grind
    rw [Function.iterate_succ_apply', ih, Ptu.detectEarthFault_of_over h]
    simp only [min_min_succ, hpresent]

/-- R100: from a run of 0, the condition and its onset come with the fifth set. -/
theorem Ptu.earthFault_after_sets (h : n < r.residual) (hrun : p.earthRun = 0) (hfault : p.earthFault = false)
    (k : Nat) :
    let q := (fun p : Ptu => (p.detectEarthFault r n).1)^[k] p
    q.earthRun = min 5 k ∧ q.earthFault = decide (5 ≤ k) ∧
      ((q.detectEarthFault r n).2 = [.ptuOnset .earthFault] ↔ k = 4) := by
  intro q
  have hq : q = _ := Ptu.iterate_detectEarthFault h hrun hfault k
  rw [Ptu.detectEarthFault_onset_iff h, hq]
  have hfourth : 4 ≤ min 5 k ∧ decide (5 ≤ k) = false ↔ k = 4 := by
    rw [decide_eq_false_iff_not]; omega
  exact ⟨rfl, rfl, hfourth⟩

end EarthFault

/-! ### Overcurrent -/

section Overcurrent

variable {r : ReadingSet} {n : Nat} {p : Ptu}

theorem ReadingSet.anyCurrent_iff (r : ReadingSet) (n : Nat) :
    r.current.any (n < ·) = true ↔ n < r.current.l1 ∨ n < r.current.l2 ∨ n < r.current.l3 := by
  simp [Three.any, or_assoc]

theorem Ptu.detectOvercurrent_of_over (h : n < r.current.l1 ∨ n < r.current.l2 ∨ n < r.current.l3) :
    p.detectOvercurrent r n =
      ({ p with overcurrentRun := min 2 (p.overcurrentRun + 1) },
        if p.overcurrentRun = 1 then [.ptuOnset .overcurrent] else []) :=
  if_pos ((r.anyCurrent_iff n).mpr h)

theorem Ptu.detectOvercurrent_of_atMost (h₁ : r.current.l1 ≤ n) (h₂ : r.current.l2 ≤ n) (h₃ : r.current.l3 ≤ n) :
    p.detectOvercurrent r n = ({ p with overcurrentRun := 0 }, []) :=
  if_neg <| (r.anyCurrent_iff n).not.mpr (by omega)

end Overcurrent

/-! ### Reverse power -/

section ReversePower

variable {r : ReadingSet} {n : Nat} {b : BreakerState} {state : SeqState} {p : Ptu}

/-- R102: the situations in which the run is counted. -/
def ReverseCounts (b : BreakerState) (state : SeqState) : Prop :=
  b ≠ .opened ∧ state ≠ .parallel ∧ state ≠ .unloading

theorem reverse_uncounted_iff :
    (b == .opened || state == .parallel || state == .unloading) = true ↔ ¬ReverseCounts b state := by
  simp only [ReverseCounts, Bool.or_eq_true, beq_iff_eq]
  tauto

theorem Ptu.detectReverse_of_below (hcounts : ReverseCounts b state) (h : r.p < -(n : Int)) :
    p.detectReverse r n b state =
      ({ p with reverseRun := min 100 (p.reverseRun + 1) },
        if p.reverseRun = 99 then [.ptuOnset .reversePower] else []) := by
  rw [Ptu.detectReverse, if_neg (reverse_uncounted_iff.not_left.mpr hcounts), if_pos h]

theorem Ptu.detectReverse_of_uncounted_or_atLeast (h : ¬ReverseCounts b state ∨ -(n : Int) ≤ r.p) :
    p.detectReverse r n b state = ({ p with reverseRun := 0 }, []) := by
  obtain hcounts | hp := h
  · exact if_pos (reverse_uncounted_iff.mpr hcounts)
  · rw [Ptu.detectReverse, if_neg (Int.not_lt.mpr hp), ite_self]

/-- R102: k counted sets in a row below the negated limit. -/
theorem Ptu.iterate_detectReverse (hcounts : ReverseCounts b state) (h : r.p < -(n : Int))
    (hrun : p.reverseRun = 0) (k : Nat) :
    (fun p : Ptu => (p.detectReverse r n b state).1)^[k] p = { p with reverseRun := min 100 k } := by
  induction k with
  | zero =>
    show p = { p with reverseRun := 0 }
    rw [← hrun]
  | succ k ih => rw [Function.iterate_succ_apply', ih, Ptu.detectReverse_of_below hcounts h, min_min_succ]

/-- R102: from a run of 0, REVERSE-POWER comes with the hundredth set alone. -/
theorem Ptu.reversePower_after_sets (hcounts : ReverseCounts b state) (h : r.p < -(n : Int))
    (hrun : p.reverseRun = 0) (k : Nat) :
    let q := (fun p : Ptu => (p.detectReverse r n b state).1)^[k] p
    q = { p with reverseRun := min 100 k } ∧
      (q.detectReverse r n b state).2 = if k = 99 then [.ptuOnset .reversePower] else [] := by
  intro q
  have hq : q = _ := Ptu.iterate_detectReverse hcounts h hrun k
  have hhundredth : min 100 k = 99 ↔ k = 99 := by omega
  rw [hq, Ptu.detectReverse_of_below hcounts h]
  exact ⟨rfl, if_congr hhundredth rfl rfl⟩

end ReversePower

/-! ### Overload -/

section Overload

variable {k : Nat} {b : BreakerState}

theorem Ptu.detectOverload_of_counting (r : ReadingSet) (p : Ptu) (hk : 0 < k) (hb : b ≠ .opened) :
    p.detectOverload r k b =
      ({ p with
          acc := accumulate p.acc r.s k
          levelK := k
          overArmed :=
            if accumulate p.acc r.s k = 0 then true
            else if levelOne k ≤ accumulate p.acc r.s k && p.overArmed then false else p.overArmed
          notice := levelOne k ≤ accumulate p.acc r.s k },
        (if levelOne k ≤ accumulate p.acc r.s k && p.overArmed then [.slcOrder .over] else []) ++
          (if accumulate p.acc r.s k = levelTwo k then [.ptuOnset .overload] else [])) := by
  have hcounting : ¬(b == .opened || decide (k = 0)) = true := by simp [hb, hk.ne']
  exact if_neg hcounting

/-- R105: an accumulator that a fall of K has left above the new L2 is capped there, whatever S is. -/
theorem accumulate_of_above {acc : Nat} (s : Nat) (h : 250 * k < acc) : accumulate acc s k = 250 * k := by
  obtain ⟨-, hcapped⟩ | ⟨hle, -⟩ := accumulate_cases acc s k
  · exact hcapped
  · exact absurd h (Nat.not_lt.mpr hle)

/-- R103: otherwise the set adds S less K, held within 0 and L2. -/
theorem accumulate_of_atMost {acc : Nat} (s : Nat) (h : acc ≤ 250 * k) :
    (accumulate acc s k : Int) = max 0 (min (acc + s - k) (250 * k)) := by
  obtain ⟨hlt, -⟩ | ⟨-, hadded⟩ := accumulate_cases acc s k
  · exact absurd hlt (Nat.not_lt.mpr h)
  · rw [hadded, levelTwo]; omega

/-- R103, R104, R105: what a set leaves of the accumulator and of the levels, and what it reports. -/
theorem Ptu.overload_after_set (r : ReadingSet) (p : Ptu) (hk : 0 < k) (hb : b ≠ .opened) :
    let o := p.detectOverload r k b
    (250 * k < p.acc → o.1.acc = 250 * k) ∧
      (p.acc ≤ 250 * k → (o.1.acc : Int) = max 0 (min (p.acc + r.s - k) (250 * k))) ∧ o.1.levelK = k ∧
      (.ptuOnset .overload ∈ o.2 ↔ o.1.acc = 250 * k) ∧
      (.slcOrder .over ∈ o.2 ↔ 5 * k ≤ o.1.acc ∧ p.overArmed = true) ∧ o.1.notice = decide (5 * k ≤ o.1.acc) := by
  intro o
  have ho : o = _ := Ptu.detectOverload_of_counting r p hk hb
  rw [ho]
  refine ⟨accumulate_of_above r.s, accumulate_of_atMost r.s, rfl, ?atLevelTwo, ?atLevelOne, rfl⟩
  case atLevelTwo =>
    show _ ↔ _ = levelTwo k
    simp
  case atLevelOne =>
    show _ ↔ levelOne k ≤ _ ∧ _
    simp

end Overload

/-! ### The statement -/

/-- Settles O32: each detector by its own cases, and the two run counts by iteration. -/
theorem detectorsCountTheirRuns : Obligations.DetectorsCountTheirRuns := by
  intro r p n
  refine ⟨fun h hrun hfault k _ => Ptu.earthFault_after_sets h hrun hfault k, Ptu.detectEarthFault_of_atMost,
    ⟨fun h => ?above, fun h₁ h₂ h₃ => ?atMost⟩, rfl, rfl,
    fun b state => ⟨Ptu.reversePower_after_sets, Ptu.detectReverse_of_uncounted_or_atLeast⟩,
    fun k b => Ptu.overload_after_set r p⟩
  case above => exact Prod.ext_iff.mp (Ptu.detectOvercurrent_of_over h)
  case atMost => exact Prod.ext_iff.mp (Ptu.detectOvercurrent_of_atMost h₁ h₂ h₃)

end Sys2Proof.Machine

/-!
# Which blocks a command, a hand-off and a due move reach

In four parts: the answer of a command's own block, from which `exec` is one cascade; the blocks of the state and what it
means to change nothing outside some of them; the blocks that each hand-off, each due move and each command reaches; and
the induction over a step that every invariant goes through.
-/

namespace Sys2Proof.Machine

/-! ### The answer of a command's own block -/

/-- The commands that put the part into a state of the start without hand-offs: power-on and the two edges of RESET. -/
def isReset : Instr → Bool
  | .powerOn _ | .resetAsserted | .resetReleased _ => true
  | _ => false

/-- What the block of a command answers, before its hand-offs are carried out. -/
def answer : Instr → State → Out
  | .powerOn straps, s => (s.powered straps, [])
  | .resetAsserted, s => (s.resetAsserted, [])
  | .resetReleased straps, s => (s.released straps, [])
  | .configLoadEnd image, s => s.loadEnd image
  | .censusTimerExpiry, s => s.censusEnd
  | .pilotMade plug, s => Psm.pilotMade plug s
  | .pilotOpened plug, s => Psm.pilotOpened plug s
  | .validationTimerExpiry plug, s => Psm.validated plug s
  | .earthchkChange passing, s => Psm.earthchk passing s
  | .latchFeedbackChange plug engaged, s => Psm.latchFeedback plug engaged s
  | .engageSupervisionExpiry, s => Psm.engageExpired s
  | .deadTimerExpiry, s => Psm.deadExpired s
  | .eswPositionChange posc poso, s => Esd.positions posc poso s
  | .eswTravelTimerExpiry, s => Esd.travelExpired s
  | .eswSettleTimerExpiry, s => Esd.settled s
  | .meteringDelivery bits, s => (Mtp.deliver bits s, [])
  | .checkEvent, s => (Mtp.checkEvent s, [])
  | .phaseTimerExpiry, s => Csq.phaseExpired s
  | .releaseDelayExpiry, s => Csq.releaseExpired s
  | .slotTimerExpiry, s => Csq.slotExpired s
  | .quietTimerExpiry, s => Csq.quietExpired s
  | .isolatingWatchExpiry, s => Csq.watchExpired s
  | .connectPress, s => Pnl.press .connect Csq.connect s
  | .releasePress, s => Pnl.press .release Csq.release s
  | .ackPress, s => Pnl.press .ack (Ptu.acknowledge Source.all) s
  | .hardRelease, s => Pnl.held .release Csq.hardRelease s
  | .lockoutClear, s => Pnl.held .ack Csq.lockoutClear s
  | .buttonInputChange button pressed, s => Pnl.button button pressed s
  | .buttonLetgoExpiry button, s => Pnl.letgoExpired button s
  | .refusalFlashEnd, s => Pnl.flashEnds s
  | .patternClockTick, s => Pnl.tick s
  | .auxContactChange auxc auxo, s => Bkd.contacts auxc auxo s
  | .closePulseEnd, s => Bkd.closePulseEnds s
  | .tripPulseEnd, s => Bkd.tripPulseEnds s
  | .closeSupervisionExpiry, s => Bkd.closeExpired s
  | .openSupervisionExpiry, s => Bkd.openExpired s
  | .contactWatchExpiry, s => Bkd.watchExpired s
  | .antiPumpExpiry, s => Bkd.antiPumpExpired s
  | .estopChange isOpen, s => Ptu.estop isOpen s
  | .transferIn mode, s => Slc.message (Slc.request (Csq.transferIn (Mode.ofByte mode))) s
  | .ready, s => Slc.message (Slc.request Csq.readyMsg) s
  | .unloaded, s => Slc.message (Slc.request Csq.unloadedMsg) s
  | .handback mode, s => Slc.message (Slc.request (Csq.handbackMsg (Mode.ofByte mode))) s
  | .taken, s => Slc.message (Slc.request Csq.takenMsg) s
  | .abandon, s => Slc.message (Slc.request Csq.abandonMsg) s
  | .shipHello payload, s =>
    Slc.message (fun s => if payload.length = 24 then Slc.shipHello payload s else (s, [])) s
  | .shipStatus payload, s =>
    Slc.message (fun s => if payload.length = 12 then Slc.shipStatus payload s else (s, [])) s
  | .shipFrameDiscard, s => Slc.hunt s
  | .shipByteGapTimeout, s => Slc.gapExpired s
  | .shipTransmitEnd, s => Slc.transmitEnd s
  | .silenceTimerExpiry, s => Slc.silenceExpired s
  | .helloTimerExpiry, s => Slc.helloExpired s
  | .ceilingTimerExpiry, s => Slc.ceilingExpired s
  | .linkHoldExpiry, s => Slc.linkHoldExpired s
  | .status ident data, s | .bid ident data, s | .object ident data, s | .stepBid ident data, s
  | .stepFree ident data, s | .querySummary ident data, s | .queryPeer ident data, s | .ackTrip ident data, s
  | .clearAttention ident data, s | .forgetPeer ident data, s => Tbc.frame ident data s
  | .queryTrip frame, s | .queryResult frame, s => Tbc.frame frame.ident frame.data s
  | .ownNumberFrame, s => Tbc.receive Tbc.ownNumber s
  | .frameDisregarded, s => Tbc.receive (fun s => (s, [])) s
  | .ownFrameCompletion ident, s => Tbc.complete ident.toNat s
  | .statusPeriodExpiry, s => Tbc.periodExpired s
  | .queueTimerExpiry, s => Tbc.queueExpired s
  | .canError error, s => (s.setTbc (s.tbc.error error), [])
  | .busOffRecovery, s => (s.setTbc s.tbc.recovered, [])
  | .peerStale berth, s => Tbc.stale berth s
  | .peerBidWindowEnd berth, s => Clu.peerWindowEnd berth s
  | .peerStepBidWindowEnd berth, s => Clu.stepWindowEnd berth s
  | .peerStepHoldExpiry berth, s => Clu.holdExpired berth s
  | .ownWindowExpiry, s => Clu.windowExpired s
  | .backoffExpiry, s => Clu.backoffExpired s
  | .graceTimerExpiry, s => Clu.graceExpired s
  | .topupTimerExpiry, s => Clu.topupExpired s
  | .budgetWaitOnset, s => Clu.budgetWaits s
  | .passTimerExpiry, s => Shc.passExpired s
  | .attentionPulseEnd, s => Atu.pulseEnds s
  | .shipLinkByteReceived byte framingError, s => Slc.receive byte framingError s
  | .refusalFlashToggle, s => Pnl.flashToggled s

/-- The state that a command leaves. -/
def after (c : Instr) (s : State) : State :=
  if isReset c then (answer c s).1.refresh else (answer c s).conclude

theorem exec_eq (c : Instr) (s : State) : exec c s = .next (after c s) := by
  cases c <;> rfl

theorem after_eq_of_exec {c : Instr} {s t : State} (h : exec c s = .next t) : t = after c s := by
  rw [exec_eq] at h; exact (Host.Outcome.next.inj h).symm

/-! ### Blocks of the state -/

/-- The parts of the state that a command or a hand-off can reach: the input lines, the configuration and the blocks. -/
inductive Block where
  | pins | cfl | psm | esd | mtp | spv | csq | bkd | syc | ptu | slc | tbc | clu | shc | pnl | atu
  deriving DecidableEq

/-- `t` is `s` but for the blocks of `bs` and the output lines. -/
structure Within (bs : List Block) (s t : State) : Prop where
  pins : bs.contains .pins = false → t.pins = s.pins
  cfl : bs.contains .cfl = false → t.cfl = s.cfl
  psm : bs.contains .psm = false → t.psm = s.psm
  esd : bs.contains .esd = false → t.esd = s.esd
  mtp : bs.contains .mtp = false → t.mtp = s.mtp
  spv : bs.contains .spv = false → t.spv = s.spv
  csq : bs.contains .csq = false → t.csq = s.csq
  bkd : bs.contains .bkd = false → t.bkd = s.bkd
  syc : bs.contains .syc = false → t.syc = s.syc
  ptu : bs.contains .ptu = false → t.ptu = s.ptu
  slc : bs.contains .slc = false → t.slc = s.slc
  tbc : bs.contains .tbc = false → t.tbc = s.tbc
  clu : bs.contains .clu = false → t.clu = s.clu
  shc : bs.contains .shc = false → t.shc = s.shc
  pnl : bs.contains .pnl = false → t.pnl = s.pnl
  atu : bs.contains .atu = false → t.atu = s.atu
  pending : t.pending = s.pending

theorem Within.trans {bs : List Block} {s t u : State} (h : Within bs s t) (k : Within bs t u) : Within bs s u where
  pins hb := (k.pins hb).trans (h.pins hb)
  cfl hb := (k.cfl hb).trans (h.cfl hb)
  psm hb := (k.psm hb).trans (h.psm hb)
  esd hb := (k.esd hb).trans (h.esd hb)
  mtp hb := (k.mtp hb).trans (h.mtp hb)
  spv hb := (k.spv hb).trans (h.spv hb)
  csq hb := (k.csq hb).trans (h.csq hb)
  bkd hb := (k.bkd hb).trans (h.bkd hb)
  syc hb := (k.syc hb).trans (h.syc hb)
  ptu hb := (k.ptu hb).trans (h.ptu hb)
  slc hb := (k.slc hb).trans (h.slc hb)
  tbc hb := (k.tbc hb).trans (h.tbc hb)
  clu hb := (k.clu hb).trans (h.clu hb)
  shc hb := (k.shc hb).trans (h.shc hb)
  pnl hb := (k.pnl hb).trans (h.pnl hb)
  atu hb := (k.atu hb).trans (h.atu hb)
  pending := k.pending.trans h.pending

theorem contains_false_of_subset {as bs : List Block} {b : Block} (h : as ⊆ bs) (hb : bs.contains b = false) :
    as.contains b = false := by
  simp only [List.contains_eq_mem, decide_eq_false_iff_not] at *
  exact fun ha => hb (h ha)

theorem Within.mono {as bs : List Block} {s t : State} (h : Within as s t) (hs : as ⊆ bs) : Within bs s t where
  pins hb := h.pins (contains_false_of_subset hs hb)
  cfl hb := h.cfl (contains_false_of_subset hs hb)
  psm hb := h.psm (contains_false_of_subset hs hb)
  esd hb := h.esd (contains_false_of_subset hs hb)
  mtp hb := h.mtp (contains_false_of_subset hs hb)
  spv hb := h.spv (contains_false_of_subset hs hb)
  csq hb := h.csq (contains_false_of_subset hs hb)
  bkd hb := h.bkd (contains_false_of_subset hs hb)
  syc hb := h.syc (contains_false_of_subset hs hb)
  ptu hb := h.ptu (contains_false_of_subset hs hb)
  slc hb := h.slc (contains_false_of_subset hs hb)
  tbc hb := h.tbc (contains_false_of_subset hs hb)
  clu hb := h.clu (contains_false_of_subset hs hb)
  shc hb := h.shc (contains_false_of_subset hs hb)
  pnl hb := h.pnl (contains_false_of_subset hs hb)
  atu hb := h.atu (contains_false_of_subset hs hb)
  pending := h.pending

/-- The state whose blocks are those of `t` where `bs` has them and those of `s` elsewhere. -/
def State.blend (bs : List Block) (s t : State) : State where
  pins := if bs.contains .pins then t.pins else s.pins
  cfl := if bs.contains .cfl then t.cfl else s.cfl
  psm := if bs.contains .psm then t.psm else s.psm
  esd := if bs.contains .esd then t.esd else s.esd
  mtp := if bs.contains .mtp then t.mtp else s.mtp
  spv := if bs.contains .spv then t.spv else s.spv
  csq := if bs.contains .csq then t.csq else s.csq
  bkd := if bs.contains .bkd then t.bkd else s.bkd
  syc := if bs.contains .syc then t.syc else s.syc
  ptu := if bs.contains .ptu then t.ptu else s.ptu
  slc := if bs.contains .slc then t.slc else s.slc
  tbc := if bs.contains .tbc then t.tbc else s.tbc
  clu := if bs.contains .clu then t.clu else s.clu
  shc := if bs.contains .shc then t.shc else s.shc
  pnl := if bs.contains .pnl then t.pnl else s.pnl
  atu := if bs.contains .atu then t.atu else s.atu
  out := t.out
  pending := s.pending

/-- A state that is such a blend of itself and `s` has changed nothing else. For a state written by the setters of `State`
and a list of blocks written out, the hypothesis is true by unfolding. -/
theorem Within.of_blend {bs : List Block} {s t : State} (h : t = State.blend bs s t) : Within bs s t := by
  constructor <;> first
    | (intro hb; rw [h]; simp only [State.blend, hb, Bool.false_eq_true, if_false])
    | (rw [h]; rfl)

theorem Within.refl (bs : List Block) (s : State) : Within bs s s := by
  constructor <;> intros <;> rfl

theorem OnlyPsm.within {s t : State} (h : OnlyPsm s t) : Within [.psm] s t := by
  unfold OnlyPsm at h; rw [h]; exact .of_blend rfl
theorem OnlyEsd.within {s t : State} (h : OnlyEsd s t) : Within [.esd] s t := by
  unfold OnlyEsd at h; rw [h]; exact .of_blend rfl
theorem OnlyBkd.within {s t : State} (h : OnlyBkd s t) : Within [.bkd] s t := by
  unfold OnlyBkd at h; rw [h]; exact .of_blend rfl
theorem OnlyPtu.within {s t : State} (h : OnlyPtu s t) : Within [.ptu] s t := by
  unfold OnlyPtu at h; rw [h]; exact .of_blend rfl
theorem OnlyCsq.within {s t : State} (h : OnlyCsq s t) : Within [.csq] s t := by
  unfold OnlyCsq at h; rw [h]; exact .of_blend rfl
theorem OnlySlc.within {s t : State} (h : OnlySlc s t) : Within [.slc] s t := by
  unfold OnlySlc at h; rw [h]; exact .of_blend rfl
theorem OnlyShc.within {s t : State} (h : OnlyShc s t) : Within [.shc] s t := by
  unfold OnlyShc at h; rw [h]; exact .of_blend rfl
theorem OnlyClaims.within {s t : State} (h : OnlyClaims s t) : Within [.tbc, .clu] s t := by
  unfold OnlyClaims at h; rw [h]; exact .of_blend rfl

end Sys2Proof.Machine

namespace Sys2Proof.Machine

/-! ### What a hand-off and a due move reach -/

/-- The blocks that a hand-off reaches. -/
def Handoff.reach : Handoff → List Block
  | .psmEngage | .psmRelease | .psmAwaitDead | .psmLive => [.psm]
  | .esdOpen | .esdClose | .esdWithdraw => [.esd]
  | .bkdOpen | .bkdTrip | .bkdRetest | .bkdClose | .bkdSlot _ | .bkdSeq _ _ => [.bkd]
  | .ptuOnset _ | .ptuCondition _ | .ptuBreaker _ | .ptuSeq _ _ => [.ptu]
  | .spvSeq _ => [.spv]
  | .sycSeq _ | .sycReady => [.syc]
  | .csqNotice _ | .csqBreaker _ | .csqCloseAccepted | .csqCloseFailed | .csqAntiPumpEnded | .csqLatchesEngaged
  | .csqLatchFail | .csqPlugDisturbed | .csqLatchesReleased | .csqSwitch | .csqFloorHeld | .csqSlotHeld | .csqPermit
  | .csqPermitWithdrawn | .csqDeadConfirmed | .csqDeadWithdrawn | .csqNegative | .csqShoreLoss | .csqLinkLoss
  | .csqEntered _ => [.csq]
  | .slcPlug _ | .slcOrder _ | .slcCeiling => [.slc]
  | .tbcOrder _ | .tbcStatus => [.tbc]
  | .cluCompleted _ => [.tbc, .clu]
  | .cluFloor | .cluWithdrawFloor | .cluStep | .cluWithdrawStep | .cluFreeStep | .cluRelease | .cluAttempt
  | .cluDecision _ | .cluBusLost | .cluDuplicate => [.clu]
  | .shcSeq _ _ | .shcFloor | .shcPass => [.shc]
  | .pnlRefused => [.pnl]
  | .atuSources => [.atu]

theorem Spv.onSeq_within (n : SeqState) (s : State) : Within [.spv] s (Spv.onSeq n s).1 := by
  unfold Spv.onSeq; split <;> exact .of_blend rfl

theorem Syc.onReady_within (s : State) : Within [.syc] s (Syc.onReady s).1 := by
  unfold Syc.onReady; split <;> exact .of_blend rfl

theorem Tbc.statusChanged_within (s : State) : Within [.tbc] s (Tbc.statusChanged s).1 := by
  obtain e | ⟨a, -, -, e⟩ := Tbc.statusChanged_cases s <;> rw [e] <;> exact .of_blend rfl

theorem Clu.put_within (c : Clu) (s : State) : Within [.clu] s (Clu.put c s).1 := .of_blend rfl

theorem Clu.makeBid_within (k : OwnKind) (n : Nat) (s : State) : Within [.clu] s (Clu.makeBid k n s).1 := by
  unfold Clu.makeBid; simp only; split <;> exact .of_blend rfl

theorem Clu.attempt_within (s : State) : Within [.clu] s (Clu.attempt s).1 := by
  unfold Clu.attempt
  rw [Out.andThen_fst]
  refine (Clu.put_within (s.clu.refreshFloor s.shc.fr) s).trans ?_
  (repeat' split) <;> first | exact .refl _ _ | exact Clu.makeBid_within _ _ _

theorem Clu.freeStep_within (s : State) : Within [.clu] s (Clu.freeStep s).1 := by
  unfold Clu.freeStep; split <;> exact .of_blend rfl

theorem Clu.release_within (s : State) : Within [.clu] s (Clu.release s).1 := by
  unfold Clu.release; split <;> exact .of_blend rfl

theorem Clu.decide_within (d : Decision) (s : State) : Within [.clu] s (Clu.decide d s).1 := by
  unfold Clu.decide; (repeat' split) <;> exact .of_blend rfl

theorem Pnl.refused_within (s : State) : Within [.pnl] s (Pnl.refused s).1 := by
  unfold Pnl.refused; split <;> exact .of_blend rfl

theorem Atu.evaluate_within (s : State) : Within [.atu] s (Atu.evaluate s).1 := by
  unfold Atu.evaluate; split <;> exact .of_blend rfl

/-- A hand-off changes no other block than those it reaches. -/
theorem handle_within (x : Handoff) (s : State) : Within x.reach s (handle x s).1 := by
  cases x with
  | psmEngage => exact (Psm.engageRequest_only s).within
  | psmRelease => exact (Psm.releaseRequest_only s).within
  | psmAwaitDead => exact (Psm.awaitDead_only s).within
  | psmLive => exact (Psm.reevaluate_only s).within
  | esdOpen => exact (Esd.openRequest_only s).within
  | esdClose => exact (Esd.closeRequest_only s).within
  | esdWithdraw => exact (Esd.withdraw_only s).within
  | bkdOpen | bkdTrip => exact (Bkd.take_only _ s).within
  | bkdRetest => exact (Bkd.retest_only s).within
  | bkdClose => exact (Bkd.closeOrder_only s).within
  | bkdSlot held => exact (Bkd.slot_only held s).within
  | bkdSeq old new => exact (Bkd.onSeq_only old new s).within
  | ptuOnset y => exact (Ptu.onset_only y s).within
  | ptuCondition y => exact (Ptu.condition_only y s).within
  | ptuBreaker b => exact (Ptu.onBreaker_only b s).within
  | ptuSeq old new => exact (Ptu.onSeq_only old new s).within
  | spvSeq new => exact Spv.onSeq_within new s
  | sycReady => exact Syc.onReady_within s
  | csqNotice y => exact (Csq.notice_only y s).within
  | csqBreaker b => exact (Csq.onBreaker_only b s).within
  | csqCloseFailed => exact (Csq.closeFailed_only s).within
  | csqLatchFail => exact (Csq.latchFail_only s).within
  | csqPlugDisturbed => exact (Csq.plugDisturbed_only s).within
  | csqLatchesReleased => exact (Csq.latchesReleased_only s).within
  | csqSlotHeld => exact (Csq.slotHeld_only s).within
  | csqDeadConfirmed => exact (Csq.deadConfirmed_only s).within
  | csqDeadWithdrawn => exact (Csq.deadWithdrawn_only s).within
  | csqNegative => exact (Csq.negative_only s).within
  | csqShoreLoss => exact (Csq.shoreLoss_only s).within
  | csqLinkLoss => exact (Csq.linkLoss_only s).within
  | csqEntered n => exact (Csq.entered_only n s).within
  | slcPlug m => exact (Slc.plug_only m s).within
  | slcOrder m => exact (Slc.orderMsg_only m s).within
  | slcCeiling => exact (Slc.presented_only s).within
  | tbcStatus => exact Tbc.statusChanged_within s
  | cluFreeStep => exact Clu.freeStep_within s
  | cluRelease => exact Clu.release_within s
  | cluAttempt => exact Clu.attempt_within s
  | cluDecision d => exact Clu.decide_within d s
  | cluCompleted b => exact (Clu.onCompleted_only b s).within
  | shcSeq old new => exact (Shc.onSeq_only old new s).within
  | shcPass => exact (Shc.runPass_only s).within
  | pnlRefused => exact Pnl.refused_within s
  | atuSources => exact Atu.evaluate_within s
  | sycSeq | csqCloseAccepted | csqAntiPumpEnded | csqLatchesEngaged | csqSwitch | csqFloorHeld | csqPermit
  | csqPermitWithdrawn | tbcOrder | cluFloor | cluWithdrawFloor | cluStep | cluWithdrawStep | cluBusLost | cluDuplicate
  | shcFloor => exact .of_blend rfl

/-- The blocks that some hand-off or due move reaches: all but the lines, the configuration and the metering port. -/
def cascadeReach : List Block :=
  [.psm, .esd, .spv, .csq, .bkd, .syc, .ptu, .slc, .tbc, .clu, .shc, .pnl, .atu]

theorem Handoff.reach_subset (x : Handoff) : x.reach ⊆ cascadeReach := by
  cases x <;> simp [Handoff.reach, cascadeReach]

/-- A due move changes one of the plug set monitor, the earthing switch drive, the sequencer and the bus controller. -/
theorem due_within {s : State} {o : Out} (h : s.due = some o) : Within [.psm, .esd, .csq, .tbc] s o.1 := by
  rcases due_cases h with h | h | h | h | h
  · exact (Esd.due_only s o h).within.mono (by simp)
  · rw [Psm.due_eq h]; exact (Psm.carryOutRelease_only s).within.mono (by simp)
  · rw [Esd.ownRequest_eq h]; exact (Esd.closeRequest_only s).within.mono (by simp)
  · exact (Csq.due_only s o h).within.mono (by simp)
  · rw [Tbc.due_eq h]; unfold Tbc.begin; split
    · exact .of_blend rfl
    · exact .refl _ s

/-! ### What a command's own block reaches -/

/-- The blocks that a command reaches before its hand-offs are carried out. -/
def commandReach : Instr → List Block
  | .powerOn _ | .resetAsserted =>
    [.cfl, .psm, .esd, .mtp, .spv, .csq, .bkd, .syc, .ptu, .slc, .tbc, .clu, .shc, .pnl, .atu]
  | .resetReleased _ => [.cfl]
  | .configLoadEnd _ => [.cfl, .psm, .esd, .mtp, .csq, .bkd, .ptu, .tbc, .shc, .pnl, .atu]
  | .censusTimerExpiry => [.cfl, .mtp, .csq]
  | .pilotMade _ | .pilotOpened _ | .earthchkChange _ | .latchFeedbackChange _ _ => [.pins, .psm]
  | .validationTimerExpiry _ | .engageSupervisionExpiry | .deadTimerExpiry => [.psm]
  | .eswPositionChange _ _ => [.pins, .esd]
  | .eswTravelTimerExpiry | .eswSettleTimerExpiry => [.esd]
  | .meteringDelivery _ | .checkEvent => .mtp :: cascadeReach
  | .phaseTimerExpiry | .releaseDelayExpiry | .slotTimerExpiry | .quietTimerExpiry | .isolatingWatchExpiry => [.csq]
  | .connectPress | .releasePress | .hardRelease | .lockoutClear => [.pnl, .csq]
  | .ackPress => [.pnl, .ptu]
  | .buttonInputChange _ _ => [.pins, .pnl]
  | .buttonLetgoExpiry _ | .refusalFlashEnd | .patternClockTick | .refusalFlashToggle => [.pnl]
  | .auxContactChange _ _ => [.pins, .bkd]
  | .closePulseEnd | .tripPulseEnd | .closeSupervisionExpiry | .openSupervisionExpiry | .contactWatchExpiry
  | .antiPumpExpiry => [.bkd]
  | .estopChange _ => [.pins, .ptu]
  | .transferIn _ | .ready | .unloaded | .handback _ | .taken | .abandon | .shipLinkByteReceived _ _ => [.slc, .csq]
  | .shipHello _ | .shipStatus _ | .shipFrameDiscard | .shipByteGapTimeout | .shipTransmitEnd | .silenceTimerExpiry
  | .helloTimerExpiry | .ceilingTimerExpiry | .linkHoldExpiry => [.slc]
  | .status _ _ | .bid _ _ | .object _ _ | .stepBid _ _ | .stepFree _ _ | .querySummary _ _ | .queryPeer _ _
  | .ackTrip _ _ | .clearAttention _ _ | .forgetPeer _ _ | .queryTrip _ | .queryResult _ => [.tbc, .clu, .ptu, .csq,
    .atu]
  | .ownNumberFrame | .frameDisregarded | .ownFrameCompletion _ | .statusPeriodExpiry | .queueTimerExpiry | .canError _
  | .busOffRecovery | .peerStale _ | .peerBidWindowEnd _ => [.tbc]
  | .peerStepBidWindowEnd _ | .peerStepHoldExpiry _ => [.tbc, .clu]
  | .ownWindowExpiry | .backoffExpiry | .graceTimerExpiry | .topupTimerExpiry | .budgetWaitOnset => [.clu]
  | .passTimerExpiry => [.shc]
  | .attentionPulseEnd => [.atu]

/-- A press is reported, and a hold reported, by the panel interface first. -/
theorem Pnl.press_within (b : Button) {bs : List Block} {report : State → Out}
    (h : ∀ s, Within bs s (report s).1) (s : State) : Within (.pnl :: bs) s (Pnl.press b report s).1 := by
  unfold Pnl.press; simp only; split
  · exact .trans (.mono (.of_blend (bs := [.pnl]) rfl) (by simp)) ((h _).mono (by simp))
  · exact .refl _ s

theorem Pnl.held_within (b : Button) {bs : List Block} {report : State → Out}
    (h : ∀ s, Within bs s (report s).1) (s : State) : Within (.pnl :: bs) s (Pnl.held b report s).1 := by
  unfold Pnl.held; simp only; split
  · exact .trans (.mono (.of_blend (bs := [.pnl]) rfl) (by simp)) ((h _).mono (by simp))
  · exact .refl _ s

theorem Slc.message_within {bs : List Block} {f : State → Out} (h : ∀ s, Within bs s (f s).1) (s : State) :
    Within (.slc :: bs) s (Slc.message f s).1 := by
  unfold Slc.message; split
  · exact .refl _ s
  · exact .trans (.mono (.of_blend (bs := [.slc]) rfl) (by simp)) ((h _).mono (by simp))

theorem Slc.request_within {f : State → Out} (h : ∀ s, OnlyCsq s (f s).1) (s : State) :
    Within [.slc, .csq] s (Slc.request f s).1 := by
  unfold Slc.request; split
  · exact .trans (.mono (.of_blend (bs := [.slc]) rfl) (by simp)) ((h _).within.mono (by simp))
  · exact .refl _ s

theorem Slc.message_request_within {f : State → Out} (h : ∀ s, OnlyCsq s (f s).1) (s : State) :
    Within [.slc, .csq] s (Slc.message (Slc.request f) s).1 :=
  (Slc.message_within (Slc.request_within h) s).mono (by simp)

theorem Slc.shipHello_within (d : List Byte) (s : State) : Within [.slc] s (Slc.shipHello d s).1 := by
  unfold Slc.shipHello; simp only; (repeat' split) <;> exact .of_blend rfl

theorem Slc.shipStatus_within (d : List Byte) (s : State) : Within [.slc] s (Slc.shipStatus d s).1 := by
  unfold Slc.shipStatus; split <;> exact .of_blend rfl

theorem Slc.dispatch_within (kind : Nat) (d : List Byte) (s : State) :
    Within [.slc, .csq] s (Slc.dispatch kind d s).1 := by
  unfold Slc.dispatch; simp only
  split
  · exact (Slc.shipHello_within d s).mono (by simp)
  · exact (Slc.shipStatus_within d s).mono (by simp)
  · exact Slc.request_within (Csq.transferIn_only _) s
  · exact Slc.request_within Csq.readyMsg_only s
  · exact Slc.request_within Csq.unloadedMsg_only s
  · exact Slc.request_within (Csq.handbackMsg_only _) s
  · exact Slc.request_within Csq.takenMsg_only s
  · exact Slc.request_within Csq.abandonMsg_only s
  · exact .refl _ s

theorem Slc.receive_within (b : Byte) (e : Bool) (s : State) : Within [.slc, .csq] s (Slc.receive b e s).1 := by
  have hunt : Within [.slc, .csq] s (Slc.hunt s).1 := .of_blend rfl
  unfold Slc.receive; simp only
  split; · exact .refl _ s
  split
  · split <;> exact .of_blend rfl
  split; · exact hunt
  split; · exact hunt
  split
  · rw [Out.andThen_fst]
    split
    · exact hunt.trans (Slc.dispatch_within _ _ _)
    · exact hunt
  · exact .of_blend rfl

theorem State.withEntry_within (b : Nat) (s : State) : Within [.tbc, .clu] s (s.withEntry b) := by
  unfold State.withEntry; split
  · exact .refl _ s
  · exact .of_blend rfl

theorem State.recordHold_within (b : Nat) (s : State) : Within [.tbc, .clu] s (s.recordHold b) := by
  unfold State.recordHold; split <;> exact .of_blend rfl

theorem Clu.stepWindowEnd_within (b : Nat) (s : State) : Within [.tbc, .clu] s (Clu.stepWindowEnd b s).1 := by
  have drop : Within [.tbc, .clu] s (s.dropStepBid b) := .of_blend rfl
  unfold Clu.stepWindowEnd; split
  · exact .refl _ s
  · split
    · exact drop
    · exact drop.trans (State.recordHold_within b _)

theorem Clu.holdExpired_within (b : Nat) (s : State) : Within [.tbc, .clu] s (Clu.holdExpired b s).1 := by
  unfold Clu.holdExpired; split <;> exact .of_blend rfl

theorem Clu.onStatus_within (b : Nat) (s : State) : Within [.tbc, .clu] s (Clu.onStatus b s).1 := by
  unfold Clu.onStatus; split <;> exact .of_blend rfl

theorem Clu.onStepFree_within (b : Nat) (s : State) : Within [.tbc, .clu] s (Clu.onStepFree b s).1 := by
  unfold Clu.onStepFree; (repeat' split) <;> exact .of_blend rfl

theorem Clu.onObject_within (b n : Nat) (s : State) : Within [.tbc, .clu] s (Clu.onObject b n s).1 := by
  unfold Clu.onObject; (repeat' split) <;> exact .of_blend rfl

theorem Tbc.forOwn_within {bs : List Block} {f : State → Out} (d : List Byte) (h : ∀ s, Within bs s (f s).1)
    (s : State) :
    Within bs s (Tbc.forOwn d f s).1 := by
  unfold Tbc.forOwn; split
  · exact h s
  · exact .refl _ s

theorem Tbc.query_within (item : Nat) (d : List Byte) {f : State → Out} (h : ∀ s, Within [.csq] s (f s).1) (s : State) :
    Within [.tbc, .csq] s (Tbc.query item d f s).1 := by
  unfold Tbc.query; split
  · exact .trans (.mono (.of_blend (bs := [.tbc]) rfl) (by simp)) ((h _).mono (by simp))
  · exact .refl _ s

theorem Tbc.onQuery_within (d : List Byte) (s : State) : Within [.tbc, .csq] s (Tbc.onQuery d s).1 := by
  unfold Tbc.onQuery; simp only
  split <;> first
    | exact Tbc.query_within _ _ (fun s => .refl _ s) s
    | exact Tbc.query_within _ _ (fun s => (Csq.popRecord_only s).within) s
    | exact .refl _ s

theorem Tbc.onControl_within (d : List Byte) (s : State) : Within [.tbc, .atu] s (Tbc.onControl d s).1 := by
  unfold Tbc.onControl; split <;> exact .of_blend rfl

theorem Tbc.onStatus_within (d : List Byte) (b : Nat) (s : State) : Within [.tbc, .clu] s (Tbc.onStatus d b s).1 :=
  .trans (.trans (State.withEntry_within b s) (.of_blend rfl)) (Clu.onStatus_within b _)

theorem Tbc.onBid_within (d : List Byte) (b : Nat) (s : State) : Within [.tbc, .clu] s (Tbc.onBid d b s).1 :=
  .trans (State.withEntry_within b s) (.of_blend rfl)

theorem Tbc.deal_within (kind : BusKind) (b : Nat) (d : List Byte) (s : State) :
    Within [.tbc, .clu, .ptu, .csq, .atu] s (Tbc.deal kind b d s).1 := by
  cases kind with
  | status => exact (Tbc.onStatus_within d b s).mono (by simp)
  | bid => exact (Tbc.onBid_within d b s).mono (by simp)
  | object => exact (Clu.onObject_within _ _ s).mono (by simp)
  | stepBid => exact .of_blend rfl
  | stepFree => exact (Clu.onStepFree_within b s).mono (by simp)
  | query => exact (Tbc.forOwn_within d (Tbc.onQuery_within d) s).mono (by simp)
  | ackTrip =>
    exact (Tbc.forOwn_within d (fun s => (Ptu.acknowledge_only _ s).within) s).mono (by simp)
  | control => exact (Tbc.forOwn_within d (Tbc.onControl_within d) s).mono (by simp)
  | reply => exact .refl _ s

theorem Tbc.receive_within {bs : List Block} {f : State → Out} (h : ∀ s, Within bs s (f s).1) (s : State) :
    Within (.tbc :: bs) s (Tbc.receive f s).1 := by
  unfold Tbc.receive; split
  · exact .trans (.mono (.of_blend (bs := [.tbc]) rfl) (by simp)) ((h _).mono (by simp))
  · exact .refl _ s

theorem Tbc.ownNumber_within (s : State) : Within [.tbc] s (Tbc.ownNumber s).1 := by
  unfold Tbc.ownNumber; split <;> exact .of_blend rfl

theorem Tbc.frame_within (ident : BitVec 11) (d : List Byte) (s : State) :
    Within [.tbc, .clu, .ptu, .csq, .atu] s (Tbc.frame ident d s).1 := by
  refine (Tbc.receive_within (bs := [.tbc, .clu, .ptu, .csq, .atu]) (fun s => ?_) s).mono (by simp)
  split
  · exact .refl _ s
  · exact (Tbc.ownNumber_within s).mono (by simp)
  · exact Tbc.deal_within _ _ d s

theorem Tbc.complete_within (i : Nat) (s : State) : Within [.tbc] s (Tbc.complete i s).1 := by
  unfold Tbc.complete; (repeat' split) <;> exact .of_blend rfl

theorem Tbc.periodExpired_within (s : State) : Within [.tbc] s (Tbc.periodExpired s).1 := by
  unfold Tbc.periodExpired; split <;> exact .of_blend rfl

theorem Tbc.queueExpired_within (s : State) : Within [.tbc] s (Tbc.queueExpired s).1 := by
  unfold Tbc.queueExpired; simp only; (repeat' split) <;> exact .of_blend rfl

theorem Clu.peerWindowEnd_within (b : Nat) (s : State) : Within [.tbc] s (Clu.peerWindowEnd b s).1 := by
  unfold Clu.peerWindowEnd; split <;> exact .of_blend rfl

theorem Clu.windowExpired_within (s : State) : Within [.clu] s (Clu.windowExpired s).1 := by
  unfold Clu.windowExpired; (repeat' split) <;> exact .of_blend rfl

theorem Clu.backoffExpired_within (s : State) : Within [.clu] s (Clu.backoffExpired s).1 := by
  unfold Clu.backoffExpired; split <;> exact .of_blend rfl

theorem Clu.graceExpired_within (s : State) : Within [.clu] s (Clu.graceExpired s).1 := by
  unfold Clu.graceExpired; split <;> exact .of_blend rfl

theorem Clu.budgetWaits_within (s : State) : Within [.clu] s (Clu.budgetWaits s).1 := by
  unfold Clu.budgetWaits; split <;> exact .of_blend rfl

theorem Clu.onSet_within (r : ReadingSet) (s : State) : Within [.clu] s (Clu.onSet r s).1 := by
  unfold Clu.onSet; simp only; (repeat' split) <;> exact .of_blend rfl

theorem Shc.passExpired_within (s : State) : Within [.shc] s (Shc.passExpired s).1 := by
  unfold Shc.passExpired; split
  · exact .trans (.of_blend rfl) (Shc.runPass_only _).within
  · exact .refl _ s

theorem Psm.pilotMade_within (i : PlugNo) (s : State) : Within [.pins, .psm] s (Psm.pilotMade i s).1 := by
  unfold Psm.pilotMade; simp only; split <;> exact .of_blend rfl

theorem Psm.pilotOpened_within (i : PlugNo) (s : State) : Within [.pins, .psm] s (Psm.pilotOpened i s).1 := by
  unfold Psm.pilotOpened Psm.loss; simp only; (repeat' split) <;> exact .of_blend rfl

theorem Psm.validated_within (i : PlugNo) (s : State) : Within [.psm] s (Psm.validated i s).1 := by
  unfold Psm.validated; simp only; split <;> exact .of_blend rfl

theorem Psm.earthchk_within (p : Bool) (s : State) : Within [.pins, .psm] s (Psm.earthchk p s).1 := by
  unfold Psm.earthchk; simp only; split <;> exact .of_blend rfl

theorem Psm.latchFeedback_within (i : PlugNo) (e : Bool) (s : State) :
    Within [.pins, .psm] s (Psm.latchFeedback i e s).1 := by
  unfold Psm.latchFeedback Psm.loss; simp only; (repeat' split) <;> exact .of_blend rfl

theorem Psm.engageExpired_within (s : State) : Within [.psm] s (Psm.engageExpired s).1 := by
  unfold Psm.engageExpired; split <;> exact .of_blend rfl

theorem Psm.deadExpired_within (s : State) : Within [.psm] s (Psm.deadExpired s).1 := by
  unfold Psm.deadExpired; split <;> exact .of_blend rfl

theorem Esd.positions_within (c o : Bool) (s : State) : Within [.pins, .esd] s (Esd.positions c o s).1 := by
  unfold Esd.positions; simp only; (repeat' split) <;> exact .of_blend rfl

theorem Esd.travelExpired_within (s : State) : Within [.esd] s (Esd.travelExpired s).1 := by
  unfold Esd.travelExpired; split <;> exact .of_blend rfl

theorem Esd.settled_within (s : State) : Within [.esd] s (Esd.settled s).1 := by
  unfold Esd.settled; (repeat' split) <;> exact .of_blend rfl

theorem Bkd.contacts_within (c o : Bool) (s : State) : Within [.pins, .bkd] s (Bkd.contacts c o s).1 := by
  unfold Bkd.contacts; simp only; (repeat' split) <;> exact .of_blend rfl

theorem Bkd.closeExpired_within (s : State) : Within [.bkd] s (Bkd.closeExpired s).1 := by
  unfold Bkd.closeExpired; split <;> exact .of_blend rfl

theorem Bkd.openExpired_within (s : State) : Within [.bkd] s (Bkd.openExpired s).1 := by
  unfold Bkd.openExpired; (repeat' split) <;> exact .of_blend rfl

theorem Bkd.watchExpired_within (s : State) : Within [.bkd] s (Bkd.watchExpired s).1 := by
  unfold Bkd.watchExpired; split <;> exact .of_blend rfl

theorem Bkd.antiPumpExpired_within (s : State) : Within [.bkd] s (Bkd.antiPumpExpired s).1 := by
  unfold Bkd.antiPumpExpired; split <;> exact .of_blend rfl

theorem Ptu.estop_within (b : Bool) (s : State) : Within [.pins, .ptu] s (Ptu.estop b s).1 := by
  unfold Ptu.estop; simp only; split <;> exact .of_blend rfl

theorem Pnl.button_within (b : Button) (p : Bool) (s : State) : Within [.pins, .pnl] s (Pnl.button b p s).1 := by
  unfold Pnl.button; simp only; split <;> exact .of_blend rfl

theorem Pnl.letgoExpired_within (b : Button) (s : State) : Within [.pnl] s (Pnl.letgoExpired b s).1 := by
  unfold Pnl.letgoExpired; simp only; split <;> exact .of_blend rfl

theorem Pnl.tick_within (s : State) : Within [.pnl] s (Pnl.tick s).1 := by
  unfold Pnl.tick; split <;> exact .of_blend rfl

theorem Pnl.flashToggled_within (s : State) : Within [.pnl] s (Pnl.flashToggled s).1 := by
  unfold Pnl.flashToggled; split <;> exact .of_blend rfl

theorem Slc.gapExpired_within (s : State) : Within [.slc] s (Slc.gapExpired s).1 := by
  unfold Slc.gapExpired; split <;> exact .of_blend rfl

theorem Slc.transmitEnd_within (s : State) : Within [.slc] s (Slc.transmitEnd s).1 := by
  unfold Slc.transmitEnd; split <;> exact .of_blend rfl

theorem Slc.silenceExpired_within (s : State) : Within [.slc] s (Slc.silenceExpired s).1 := by
  unfold Slc.silenceExpired; split <;> exact .of_blend rfl

theorem Slc.helloExpired_within (s : State) : Within [.slc] s (Slc.helloExpired s).1 := by
  unfold Slc.helloExpired; split <;> exact .of_blend rfl

theorem Slc.ceilingExpired_within (s : State) : Within [.slc] s (Slc.ceilingExpired s).1 := by
  unfold Slc.ceilingExpired; split <;> exact .of_blend rfl

theorem Slc.linkHoldExpired_within (s : State) : Within [.slc] s (Slc.linkHoldExpired s).1 := by
  unfold Slc.linkHoldExpired; split <;> exact .of_blend rfl

theorem State.released_within (n : BitVec 5) (s : State) : Within [.cfl] s (s.released n) := by
  unfold State.released; split <;> exact .of_blend rfl

theorem State.loadEnd_within (d : List Byte) (s : State) :
    Within [.cfl, .psm, .esd, .mtp, .csq, .bkd, .ptu, .tbc, .shc, .pnl, .atu] s (s.loadEnd d).1 := by
  unfold State.loadEnd; (repeat' split) <;> exact .of_blend rfl

theorem State.censusEnd_within (s : State) : Within [.cfl, .mtp, .csq] s s.censusEnd.1 := by
  unfold State.censusEnd; simp only
  split
  · split
    · exact .trans (.of_blend rfl) ((Csq.firstState_only _).within.mono (by simp))
    · exact .of_blend rfl
  · exact .refl _ s

/-! ### What a reading set and a check event reach -/

theorem Spv.onSet_within (r : ReadingSet) (lost : Bool) (s : State) : Within [.spv] s (Spv.onSet r lost s).1 := by
  unfold Spv.onSet; simp only; (repeat' split) <;> exact .of_blend rfl

theorem Syc.onSet_within (r : ReadingSet) (lost : Bool) (s : State) : Within [.syc] s (Syc.onSet r lost s).1 := by
  unfold Syc.onSet; simp only; (repeat' split) <;> exact .of_blend rfl

/-- Carried through all its hand-offs, an answer that stays within the blocks of a cascade still does. -/
theorem Within.run {s : State} {o : Out} (h : Within cascadeReach s o.1) : Within cascadeReach s o.run :=
  Out.run_keeps (Within cascadeReach s) (fun x _ k => k.trans ((handle_within x _).mono x.reach_subset)) o h

theorem inTurn_within {fs : List (State → Out)} (h : ∀ f ∈ fs, ∀ s, Within cascadeReach s (f s).1) (s : State) :
    Within cascadeReach s (inTurn fs s) :=
  inTurn_keeps (Within cascadeReach s) (fun x _ k => k.trans ((handle_within x _).mono x.reach_subset)) fs
    (fun f hf _ k => k.trans (h f hf _)) s (.refl _ s)

theorem setConsumers_within (r : ReadingSet) (lost going : Bool) :
    ∀ f ∈ setConsumers r lost going, ∀ s, Within cascadeReach s (f s).1 := by
  intro f hf s
  have hf' : f ∈ [Psm.reevaluate, Spv.onSet r lost, Syc.onSet r lost, Ptu.onSet r, Shc.onSet r, Psm.onSet r,
    Clu.onSet r,
      Csq.onSet r] := by
    revert hf; unfold setConsumers; split <;> simp +contextual
  simp only [List.mem_cons, List.not_mem_nil, or_false] at hf'
  rcases hf' with rfl | rfl | rfl | rfl | rfl | rfl | rfl | rfl
  · exact (Psm.reevaluate_only s).within.mono (by simp [cascadeReach])
  · exact (Spv.onSet_within r lost s).mono (by simp [cascadeReach])
  · exact (Syc.onSet_within r lost s).mono (by simp [cascadeReach])
  · exact (Ptu.onSet_only r s).within.mono (by simp [cascadeReach])
  · exact (Shc.onSet_only r s).within.mono (by simp [cascadeReach])
  · exact (Psm.onSet_only r s).within.mono (by simp [cascadeReach])
  · exact (Clu.onSet_within r s).mono (by simp [cascadeReach])
  · exact (Csq.onSet_only r s).within.mono (by simp [cascadeReach])

theorem lossConsumers_within : ∀ f ∈ lossConsumers, ∀ s, Within cascadeReach s (f s).1 := by
  intro f hf s
  simp only [lossConsumers, List.mem_cons, List.not_mem_nil, or_false] at hf
  rcases hf with rfl | rfl | rfl | rfl
  · exact (Ptu.meteringOnset_only s).within.mono (by simp [cascadeReach])
  · exact (Psm.meteringOnset_only s).within.mono (by simp [cascadeReach])
  · exact .of_blend rfl
  · exact .of_blend rfl

theorem Mtp.deliver_within (bits : List Bool) (s : State) :
    Within (.mtp :: cascadeReach) s (Mtp.deliver bits s) := by
  unfold Mtp.deliver; simp only
  split; · exact .refl _ s
  split; · exact .of_blend rfl
  exact .trans (.of_blend rfl) ((inTurn_within (setConsumers_within _ _ _) _).mono (by simp))

theorem Mtp.checkEvent_within (s : State) : Within (.mtp :: cascadeReach) s (Mtp.checkEvent s) := by
  unfold Mtp.checkEvent; simp only
  split; · exact .refl _ s
  split
  · exact .trans (.of_blend rfl) ((inTurn_within lossConsumers_within _).mono (by simp))
  · exact .of_blend rfl

/-- The own block of a command changes no other block than those that the command reaches. -/
theorem answer_within (c : Instr) (s : State) : Within (commandReach c) s (answer c s).1 := by
  cases c with
  | resetReleased n => exact s.released_within n
  | configLoadEnd d => exact s.loadEnd_within d
  | censusTimerExpiry => exact s.censusEnd_within
  | pilotMade i => exact Psm.pilotMade_within i s
  | pilotOpened i => exact Psm.pilotOpened_within i s
  | validationTimerExpiry i => exact Psm.validated_within i s
  | earthchkChange p => exact Psm.earthchk_within p s
  | latchFeedbackChange i e => exact Psm.latchFeedback_within i e s
  | engageSupervisionExpiry => exact Psm.engageExpired_within s
  | deadTimerExpiry => exact Psm.deadExpired_within s
  | eswPositionChange a b => exact Esd.positions_within a b s
  | eswTravelTimerExpiry => exact Esd.travelExpired_within s
  | eswSettleTimerExpiry => exact Esd.settled_within s
  | meteringDelivery d => exact Mtp.deliver_within d s
  | checkEvent => exact Mtp.checkEvent_within s
  | phaseTimerExpiry => exact (Csq.phaseExpired_only s).within
  | releaseDelayExpiry => exact (Csq.releaseExpired_only s).within
  | slotTimerExpiry => exact (Csq.slotExpired_only s).within
  | quietTimerExpiry => exact (Csq.quietExpired_only s).within
  | isolatingWatchExpiry => exact (Csq.watchExpired_only s).within
  | connectPress => exact Pnl.press_within _ (fun s => (Csq.connect_only s).within) s
  | releasePress => exact Pnl.press_within _ (fun s => (Csq.release_only s).within) s
  | ackPress => exact Pnl.press_within _ (fun s => (Ptu.acknowledge_only _ s).within) s
  | hardRelease => exact Pnl.held_within _ (fun s => (Csq.hardRelease_only s).within) s
  | lockoutClear => exact Pnl.held_within _ (fun s => (Csq.lockoutClear_only s).within) s
  | buttonInputChange b p => exact Pnl.button_within b p s
  | buttonLetgoExpiry b => exact Pnl.letgoExpired_within b s
  | patternClockTick => exact Pnl.tick_within s
  | refusalFlashToggle => exact Pnl.flashToggled_within s
  | auxContactChange a b => exact Bkd.contacts_within a b s
  | closeSupervisionExpiry => exact Bkd.closeExpired_within s
  | openSupervisionExpiry => exact Bkd.openExpired_within s
  | contactWatchExpiry => exact Bkd.watchExpired_within s
  | antiPumpExpiry => exact Bkd.antiPumpExpired_within s
  | estopChange b => exact Ptu.estop_within b s
  | transferIn m => exact Slc.message_request_within (Csq.transferIn_only _) s
  | ready => exact Slc.message_request_within Csq.readyMsg_only s
  | unloaded => exact Slc.message_request_within Csq.unloadedMsg_only s
  | handback m => exact Slc.message_request_within (Csq.handbackMsg_only _) s
  | taken => exact Slc.message_request_within Csq.takenMsg_only s
  | abandon => exact Slc.message_request_within Csq.abandonMsg_only s
  | shipHello d =>
    refine (Slc.message_within (bs := [.slc]) (fun s => ?_) s).mono (by simp [commandReach])
    split
    · exact Slc.shipHello_within d s
    · exact .refl _ s
  | shipStatus d =>
    refine (Slc.message_within (bs := [.slc]) (fun s => ?_) s).mono (by simp [commandReach])
    split
    · exact Slc.shipStatus_within d s
    · exact .refl _ s
  | shipByteGapTimeout => exact Slc.gapExpired_within s
  | shipTransmitEnd => exact Slc.transmitEnd_within s
  | silenceTimerExpiry => exact Slc.silenceExpired_within s
  | helloTimerExpiry => exact Slc.helloExpired_within s
  | ceilingTimerExpiry => exact Slc.ceilingExpired_within s
  | linkHoldExpiry => exact Slc.linkHoldExpired_within s
  | shipLinkByteReceived b e => exact Slc.receive_within b e s
  | status i d | bid i d | object i d | stepBid i d | stepFree i d | querySummary i d | queryPeer i d | ackTrip i d
  | clearAttention i d | forgetPeer i d => exact Tbc.frame_within i d s
  | queryTrip f | queryResult f => exact Tbc.frame_within f.ident f.data s
  | ownNumberFrame => exact (Tbc.receive_within Tbc.ownNumber_within s).mono (by simp [commandReach])
  | frameDisregarded => exact Tbc.receive_within (f := fun s => (s, [])) (bs := []) (fun s => .refl _ s) s
  | ownFrameCompletion i => exact Tbc.complete_within _ s
  | statusPeriodExpiry => exact Tbc.periodExpired_within s
  | queueTimerExpiry => exact Tbc.queueExpired_within s
  | peerBidWindowEnd n => exact Clu.peerWindowEnd_within n s
  | peerStepBidWindowEnd n => exact Clu.stepWindowEnd_within n s
  | peerStepHoldExpiry n => exact Clu.holdExpired_within n s
  | ownWindowExpiry => exact Clu.windowExpired_within s
  | backoffExpiry => exact Clu.backoffExpired_within s
  | graceTimerExpiry => exact Clu.graceExpired_within s
  | budgetWaitOnset => exact Clu.budgetWaits_within s
  | passTimerExpiry => exact Shc.passExpired_within s
  | powerOn | resetAsserted | refusalFlashEnd | closePulseEnd | tripPulseEnd | shipFrameDiscard | canError | busOffRecovery
  | peerStale | topupTimerExpiry | attentionPulseEnd => exact .of_blend rfl

end Sys2Proof.Machine

namespace Sys2Proof.Machine

/-! ### Induction over a command and over a step -/

/-- A property that hand-offs, due moves and the output lines keep is kept by a command whose own block keeps it. -/
theorem after_keeps (P : State → Prop) (hh : ∀ x s, P s → P (handle x s).1)
    (hd : ∀ s o, s.due = some o → P s → P o.1) (hr : ∀ s, P s → P s.refresh) {c : Instr} {s : State}
    (h : P (answer c s).1) : P (after c s) := by
  unfold after
  split
  · exact hr _ h
  · exact Out.conclude_keeps P hh hd hr _ h

/-- What a step runs: a command, with the rest of the queue or as the expiry that is due, or one millisecond. -/
theorem step_cases {s t : State} (h : step s = .next t) :
    (∃ c rest, s.pending = c :: rest ∧ t = after c (s.setPending rest)) ∨
      (∃ c rest, s.expired = c :: rest ∧ t = after c s) ∨ t = s.tick.refresh := by
  unfold step at h
  split at h
  next c rest hp => exact .inl ⟨c, rest, hp, after_eq_of_exec h⟩
  next hp =>
    unfold idle at h
    split at h
    next c rest he => exact .inr (.inl ⟨c, rest, he, after_eq_of_exec h⟩)
    next => exact .inr (.inr (Host.Outcome.next.inj h).symm)

/-- A property that commands keep, whatever waits, and that a millisecond keeps is kept by every step. -/
theorem step_keeps (P : State → Prop) (hp : ∀ s l, P s → P (s.setPending l)) (hc : ∀ c s, P s → P (after c s))
    (ht : ∀ s, P s → P s.tick.refresh) {s t : State} (h : step s = .next t) (hs : P s) : P t := by
  obtain ⟨c, rest, -, rfl⟩ | ⟨c, rest, -, rfl⟩ | rfl := step_cases h
  · exact hc c _ (hp s rest hs)
  · exact hc c s hs
  · exact ht s hs

/-! ### The output lines -/

/-- Every command lets the output lines follow. -/
theorem after_eq_refresh (c : Instr) (s : State) : ∃ u : State, after c s = u.refresh := by
  unfold after
  split
  · exact ⟨_, rfl⟩
  · exact ⟨_, rfl⟩

theorem after_out (c : Instr) (s : State) : (after c s).out = (after c s).lines := by
  obtain ⟨u, hu⟩ := after_eq_refresh c s
  rw [hu]; rfl

/-- Beyond what its own block makes of them, a command leaves the input lines, the configuration, the metering port and
the queue of commands alone. -/
theorem after_kept (c : Instr) (s : State) : Kept (answer c s).1 (after c s) := by
  unfold after
  split
  · exact State.refresh_kept _
  · exact Out.conclude_kept _

theorem after_pending (c : Instr) (s : State) : (after c s).pending = s.pending :=
  (after_kept c s).pending.trans (answer_within c s).pending

/-! ### Steps and the queue of commands -/

/-- Settles O1: the two arms of `step`. -/
theorem stepRunsTheFrontCommand : Obligations.StepRunsTheFrontCommand := by
  intro c rest s hp
  unfold step
  rw [hp]
  rfl

/-- Settles O2: the two arms of `idle`. -/
theorem emptyQueueLetsTimePass : Obligations.EmptyQueueLetsTimePass := by
  intro s hp
  have hstep : step s = idle s := by unfold step; rw [hp]
  constructor
  · intro c rest he; rw [hstep, idle, he]
  · intro he; rw [hstep, idle, he]

/-- Settles O3: every command is its block's answer carried through. -/
theorem everyCommandCompletes : Obligations.EveryCommandCompletes :=
  fun c s => ⟨after c s, exec_eq c s, after_pending c s, after_out c s⟩

/-! ### The configuration -/

/-- Outside the start, a command changes at most the census timer of the configuration. -/
theorem answer_cfl_of_not_start {c : Instr} (hc : isStart c = false) (s : State) :
    ∃ t, (answer c s).1.cfl = { s.cfl with census := t } := by
  by_cases hr : (commandReach c).contains .cfl = false
  · exact ⟨s.cfl.census, (answer_within c s).cfl hr⟩
  rw [Bool.not_eq_false] at hr
  cases c with
  | powerOn | resetAsserted | resetReleased | configLoadEnd => exact absurd hc Bool.true_eq_false_eq_False
  | censusTimerExpiry =>
    show ∃ t, s.censusEnd.1.cfl = _
    unfold State.censusEnd
    split
    · refine ⟨none, ?_⟩
      simp only
      split
      · rw [(Csq.firstState_only _).within.cfl rfl]; rfl
      · rfl
    · exact ⟨s.cfl.census, rfl⟩
  | _ => exact absurd hr Bool.false_ne_true

theorem State.loadEnd_of_not_loading (d : List Byte) {s : State} (h : s.cfl.stage ≠ .loading) :
    s.loadEnd d = (s, []) := by
  unfold State.loadEnd; simp [h]

theorem State.released_of_not_reset (n : BitVec 5) {s : State} (h : s.cfl.stage ≠ .reset) : s.released n = s := by
  unfold State.released; simp [h]

/-- Settles O8: outside the start only the census timer changes, and in CONFIG-FAULT neither a load nor a release of RESET
is taken. -/
theorem figuresAndConfigFaultStand : Obligations.FiguresAndConfigFaultStand := by
  constructor
  · intro c s t hc h
    obtain ⟨n, hn⟩ := answer_cfl_of_not_start hc s
    have hcfl : t.cfl = { s.cfl with census := n } := by
      rw [after_eq_of_exec h, (after_kept c s).cfl, hn]
    exact ⟨by rw [State.figs, hcfl], by rw [State.own, hcfl], by rw [hcfl]⟩
  · intro c s t hs h
    by_cases hc : isStart c = false
    · obtain ⟨n, hn⟩ := answer_cfl_of_not_start hc s
      left
      rw [after_eq_of_exec h, (after_kept c s).cfl, hn]
      exact hs
    rw [Bool.not_eq_false] at hc
    have hcfl : t.cfl = (answer c s).1.cfl := by rw [after_eq_of_exec h, (after_kept c s).cfl]
    cases c with
    | powerOn n => exact .inr (.inl ⟨n, rfl⟩)
    | resetAsserted => exact .inr (.inr rfl)
    | resetReleased n =>
      left
      rw [hcfl]
      show (s.released n).cfl.stage = _
      rw [State.released_of_not_reset n (by simp [hs]), hs]
    | configLoadEnd d =>
      left
      rw [hcfl]
      show (s.loadEnd d).1.cfl.stage = _
      rw [State.loadEnd_of_not_loading d (by simp [hs]), hs]
    | _ => exact absurd hc Bool.false_ne_true

/-! ### Lamps and attention line -/

section Lamps

variable {t : State}

theorem State.lampLit_of_running (p : Pattern) (h : t.running = true) : t.lampLit p = p.lit t.pnl.clock := by
  have hs : t.cfl.stage = .running := by simpa [State.running] using h
  simp [State.lampLit, hs]

theorem State.attentionOn_of_running (h : t.running = true) :
    t.attentionOn = if t.figs.pulseMode then t.atu.pulse.isSome else t.atu.statuses.any (Status.named t.figs.enable) :=
      by
  have hs : t.cfl.stage = .running := by simpa [State.running] using h
  simp [State.attentionOn, hs]

/-- R174: the SHORE lamp by the sequencer state. -/
theorem State.shoreLamp_by_state :
    (t.csq.state = .shore → t.shoreLamp = .steady) ∧
    (t.csq.state ∈ [SeqState.proving, .ready, .syncing, .deadwait, .parallel, .releaseWait, .handback, .unloading] →
      t.shoreLamp = .slow) ∧
    (t.csq.state = .isolating → t.shoreLamp = if t.csq.tripIso then .fast else .dark) ∧
    (t.csq.state ∈ [SeqState.start, .vacant, .hooked, .lockout] → t.shoreLamp = .dark) := by
  unfold State.shoreLamp
  cases t.csq.state <;> simp

end Lamps

/-- R174 to R177: what the lines of a running part show. -/
theorem State.lines_show {t : State} (hr : t.running = true) :
    (t.csq.state = .shore → t.lines.lampShore = true) ∧
    (t.csq.state ∈ [SeqState.proving, .ready, .syncing, .deadwait, .parallel, .releaseWait, .handback, .unloading] →
      t.lines.lampShore = decide (t.pnl.clock % 8 < 4)) ∧
    (t.csq.state = .isolating → t.lines.lampShore = (t.csq.tripIso && t.pnl.clock % 2 == 0)) ∧
    (t.csq.state ∈ [SeqState.start, .vacant, .hooked, .lockout] → t.lines.lampShore = false) ∧
    (t.csq.state ≠ .lockout → t.lines.lampTrip = !t.ptu.latched.isEmpty) ∧
    (t.csq.state = .lockout → t.lines.lampTrip = (t.pnl.clock % 2 == 0)) ∧
    (t.psm.setState = .complete → t.lines.lampPlugs = true) ∧
    (t.pnl.flash.isSome = true → t.lines.lampWait = t.pnl.flashLit) ∧
    (t.pnl.flash = none → t.lines.lampWait = (t.clu.waiting && decide (t.pnl.clock % 8 < 4))) ∧
    (t.figs.pulseMode = true → t.lines.attention = t.atu.pulse.isSome) ∧
    (t.figs.pulseMode = false →
      (t.lines.attention = true ↔ ∃ x ∈ t.atu.statuses, t.figs.enable.getLsbD x.bit = true)) := by
  have lit := fun p => State.lampLit_of_running (t := t) p hr
  obtain ⟨shore, slow, isolating, dark⟩ := State.shoreLamp_by_state (t := t)
  simp only [State.lines, State.waitLit, lit, State.attentionOn_of_running hr, hr, Bool.true_and]
  refine ⟨fun h => ?_, fun h => ?_, fun h => ?_, fun h => ?_, fun h => ?_, fun h => ?_, fun h => ?_, fun h => ?_,
    fun h => ?_, fun h => ?_, fun h => ?_⟩
  · rw [shore h]; rfl
  · rw [slow h]; rfl
  · rw [isolating h]; cases t.csq.tripIso <;> rfl
  · rw [dark h]; rfl
  · unfold State.tripLamp; cases t.ptu.latched <;> simp [h, Pattern.lit]
  · simp [State.tripLamp, h, Pattern.lit]
  · simp [State.plugsLamp, h, Pattern.lit]
  · rw [if_pos h]
  · rw [h]; unfold State.waitLamp; cases t.clu.waiting <;> simp [Pattern.lit]
  · rw [if_pos h]
  · simp [h, Status.named]

/-- R176: the attention unit sets a status exactly at an onset of a present source, or leaves it set. -/
theorem Atu.evaluate_statuses {s : State} (x : Status) (h : s.running = true) :
    x ∈ (Atu.evaluate s).1.atu.statuses ↔
      s.sourcePresent x = true ∧ (x ∈ s.atu.statuses ∨ x ∉ s.atu.present) := by
  have hall : x ∈ Status.all := by cases x <;> simp [Status.all]
  simp only [Atu.evaluate, h, if_true, State.setAtu_atu, Atu.take, State.presentSources, List.mem_filter, hall,
    true_and,
    Bool.or_eq_true, List.contains_iff_mem, Bool.not_eq_true', ← Bool.not_eq_true]

/-- Settles O26: a command leaves the lines that its registers give (`after_out`), and those show the state. -/
theorem lampsAndAttentionFollowTheState : Obligations.LampsAndAttentionFollowTheState := by
  constructor
  · intro c s t h hr
    have hout : t.out = t.lines := by rw [after_eq_of_exec h, after_out]
    rw [hout]
    exact State.lines_show hr
  · exact fun s x h => Atu.evaluate_statuses x h

end Sys2Proof.Machine

/-!
# What every answer of the sequencer keeps

One relation, said once of every function of the sequencer: the counts stay within their ranges, the re-transfer mask is
not cleared, and a change of state is handed on to the breaker drive, which re-tests its hold conditions (R34, R70).
-/

namespace Sys2Proof.Machine

/-- The items of the sequencer that have a range. -/
def Csq.counts (c : Csq) : List Record × Nat × Nat × Nat × Nat := (c.log, c.seq, c.retry, c.closeFail, c.unloadRun)

theorem Csq.Ordered.of_counts {c d : Csq} (h : c.Ordered) (e : d.counts = c.counts) : d.Ordered := by
  simp only [Csq.counts, Prod.mk.injEq] at e
  obtain ⟨e1, e2, e3, e4, e5⟩ := e
  exact ⟨e1 ▸ h.log_le, e2 ▸ h.seq_le, e3 ▸ h.retry_le, e4 ▸ h.closeFail_le, e5 ▸ h.unloadRun_le⟩

/-- What every answer of the sequencer but that to a CONNECT press in HOOKED keeps of the state `s`. -/
structure Csq.Moves (s : State) (o : Out) : Prop where
  mask : s.csq.mask = true → o.1.csq.mask = true
  ordered : s.csq.Ordered → o.1.csq.Ordered
  handed : o.1.csq.state = s.csq.state ∨ ∃ old new, Handoff.bkdSeq old new ∈ o.2

namespace Csq.Moves

variable {s : State} {o : Out}

/-- An answer that leaves the sequencer as it is. -/
theorem same (l : List Handoff) : Csq.Moves s (s, l) := ⟨id, id, .inl rfl⟩

/-- An answer that changes the sequencer's items, its state not among them. -/
theorem items {c : Csq} {l : List Handoff} (hm : s.csq.mask = true → c.mask = true)
    (ho : s.csq.Ordered → c.Ordered) (hs : c.state = s.csq.state) : Csq.Moves s (s.setCsq c, l) :=
  ⟨hm, ho, .inl hs⟩

/-- More hand-offs, before or behind those of an answer. -/
theorem handOn (h : Csq.Moves s o) {l : List Handoff} (hl : o.2 ⊆ l) : Csq.Moves s (o.1, l) :=
  ⟨h.mask, h.ordered, h.handed.imp id fun ⟨old, new, hb⟩ => ⟨old, new, hl hb⟩⟩

theorem cons (h : Csq.Moves s o) (x : Handoff) : Csq.Moves s (o.1, x :: o.2) := h.handOn (List.subset_cons_self _ _)

/-- One answer after another. -/
theorem after (h : Csq.Moves s o) {p : Out} (k : Csq.Moves o.1 p) {l : List Handoff} (ho : o.2 ⊆ l) (hp : p.2 ⊆ l) :
    Csq.Moves s (p.1, l) where
  mask hm := k.mask (h.mask hm)
  ordered hs := k.ordered (h.ordered hs)
  handed := by
    obtain hk | ⟨old, new, hk⟩ := k.handed
    · exact (h.handed.imp hk.trans fun ⟨old, new, hb⟩ => ⟨old, new, ho hb⟩)
    · exact .inr ⟨old, new, hp hk⟩

theorem andThen (h : Csq.Moves s o) {f : State → Out} (k : Csq.Moves o.1 (f o.1)) : Csq.Moves s (o.andThen f) :=
  h.after k (List.subset_append_left _ _) (List.subset_append_right _ _)

end Csq.Moves

/-! ### Records, procedures and state changes -/

theorem nextSeq_le {n : Nat} (h : n ≤ 65535) : nextSeq n ≤ 65535 := by
  unfold nextSeq; split <;> omega

/-- R36, R37: a written record keeps the log and the sequence counter in their ranges. -/
theorem Csq.write_ordered {c : Csq} {r : Record} (h : c.Ordered) (hr : r.seq = nextSeq c.seq) :
    (c.write r).Ordered where
  log_le := appendRecord_length_le _ _ h.log_le
  seq_le := by show r.seq ≤ 65535; rw [hr]; exact nextSeq_le h.seq_le
  retry_le := h.retry_le
  closeFail_le := h.closeFail_le
  unloadRun_le := h.unloadRun_le

theorem Csq.endProc_moves (e : Ending) (c : Cause) (s : State) : Csq.Moves s (Csq.endProc e c s) := by
  unfold Csq.endProc
  split
  · exact .same _
  · exact .items id (fun h => Csq.write_ordered h rfl) rfl

theorem Csq.endFallback_moves (e : Ending) (c : Cause) (s : State) : Csq.Moves s (Csq.endFallback e c s) :=
  .items id (fun h => Csq.write_ordered h rfl) rfl

theorem Csq.openProc_moves (k : ProcKind) (m : Mode) (f : Option (Ending × Cause)) (s : State) :
    Csq.Moves s (Csq.openProc k m f s) :=
  .items id (fun h => h.of_counts rfl) rfl

theorem bkdSeq_mem_stateChanged (old new : SeqState) : Handoff.bkdSeq old new ∈ stateChanged old new := by
  simp [stateChanged]

theorem Csq.enter_moves {new : SeqState} {f : Csq → Csq} (s : State)
    (hm : ∀ c, c.mask = true → (f c).mask = true) (ho : ∀ c, c.Ordered → (f c).Ordered) :
    Csq.Moves s (Csq.enter new f s) where
  mask h := hm _ h
  ordered h := ho _ ⟨h.log_le, h.seq_le, h.retry_le, h.closeFail_le, h.unloadRun_le⟩
  handed := .inr ⟨s.csq.state, new, bkdSeq_mem_stateChanged _ _⟩

/-- Entry to a state with further changes that touch neither the mask nor the counts. -/
theorem Csq.enter_moves_of {new : SeqState} {f : Csq → Csq} (s : State)
    (hf : ∀ c, (f c).mask = c.mask ∧ (f c).counts = c.counts) : Csq.Moves s (Csq.enter new f s) :=
  Csq.enter_moves s (fun c h => (hf c).1.trans h) (fun c h => h.of_counts (hf c).2)

theorem Csq.enterIsolating_moves (trip : Bool) (s : State) : Csq.Moves s (Csq.enterIsolating trip s) :=
  Csq.enter_moves_of s fun _ => ⟨rfl, rfl⟩

theorem Csq.enterLockout_moves (s : State) : Csq.Moves s (Csq.enterLockout s) :=
  Csq.enter_moves s (fun _ _ => rfl) fun _ ⟨h1, h2, h3, h4, _⟩ => ⟨h1, h2, h3, h4, Nat.zero_le _⟩

theorem Csq.enterVacant_moves (s : State) : Csq.Moves s (Csq.enterVacant s) :=
  Csq.enter_moves s (fun _ h => h) fun _ ⟨h1, h2, _, _, h5⟩ => ⟨h1, h2, Nat.zero_le _, Nat.zero_le _, h5⟩

theorem Csq.enter_id_moves (new : SeqState) (s : State) : Csq.Moves s (Csq.enter new id s) :=
  Csq.enter_moves s (fun _ h => h) fun _ h => h

theorem Csq.enterRest_moves (s : State) : Csq.Moves s (Csq.enterRest s) := by
  unfold Csq.enterRest
  split
  · exact Csq.enter_id_moves _ s
  · exact Csq.enterVacant_moves s

theorem Csq.enterProving_moves (m : Mode) (s : State) : Csq.Moves s (Csq.enterProving m s) :=
  Csq.enter_moves_of s fun _ => ⟨rfl, rfl⟩

theorem Csq.enterShoreNew_moves (s : State) : Csq.Moves s (Csq.enterShoreNew s) :=
  Csq.enter_moves_of s fun _ => ⟨rfl, rfl⟩

theorem Csq.returnToShore_moves (s : State) : Csq.Moves s (Csq.returnToShore s) := Csq.enter_id_moves _ s

/-! ### Ends of a transfer -/

theorem Csq.wayOut_moves (trip : Bool) {s : State} {o : Out} (h : Csq.Moves s o) : Csq.Moves s (Csq.wayOut trip o) := by
  unfold Csq.wayOut
  split
  · exact h.after (Csq.enterRest_moves o.1) (fun x hx => by simp [hx]) (fun x hx => by simp [hx])
  · exact h.after (Csq.enterIsolating_moves trip o.1) (fun x hx => by simp [hx]) (fun x hx => by simp [hx])

theorem Csq.abort_moves (c : Cause) (trip : Bool) (s : State) : Csq.Moves s (Csq.abort c trip s) := by
  have h := Csq.endProc_moves .aborted c s
  refine Csq.wayOut_moves trip ⟨h.mask, fun ho => ?_, h.handed⟩
  obtain ⟨h1, h2, h3, h4, h5⟩ := h.ordered ho
  exact ⟨h1, h2, Nat.min_le_left _ _, h4, h5⟩

theorem Csq.supersede_moves (c : Cause) (s : State) : Csq.Moves s (Csq.supersede c s) :=
  Csq.wayOut_moves false (Csq.endProc_moves .superseded c s)

theorem Csq.fail_moves (e : Ending) (c : Cause) (s : State) : Csq.Moves s (Csq.fail e c s) :=
  (Csq.endProc_moves e c s).andThen (Csq.enterLockout_moves _)

theorem Csq.isolateWith_moves (e : Ending) (c : Cause) (s : State) : Csq.Moves s (Csq.isolateWith e c s) := by
  let d : Csq := { s.csq with proc := s.csq.proc.map fun p => { p with fixed := some (e, c) } }
  have h : Csq.Moves s (s.setCsq d, []) := .items id (fun h => h.of_counts rfl) rfl
  exact h.after (Csq.enterIsolating_moves false _) (List.nil_subset _) (List.subset_cons_self _ _)

/-! ### The panel and the ship -/

/-- The sequencer with the mask and the retry count cleared by a CONNECT press (R40). -/
def State.unmasked (s : State) : State := s.setCsq { s.csq with mask := false, retry := 0 }

/-- R40: an answer to a CONNECT press is one that every answer is, from the sequencer as it was or with the mask and the
retry count cleared. -/
theorem Csq.connect_moves (s : State) : Csq.Moves s (Csq.connect s) ∨ Csq.Moves s.unmasked (Csq.connect s) := by
  unfold Csq.connect
  split
  · simp only
    split
    · exact .inl (.same _)
    · refine .inr (Csq.Moves.andThen ?_ (Csq.enterProving_moves _ _))
      exact (Csq.openProc_moves _ _ _ _).handOn (List.subset_append_left _ _)
  · left
    let d : Csq := { s.csq with releaseDelay := none }
    have h : Csq.Moves s (s.setCsq d, []) := .items id (fun h => h.of_counts rfl) rfl
    have k := h.after (Csq.endProc_moves .superseded .operator (s.setCsq d)) (List.nil_subset _) (fun _ hx => hx)
    exact Csq.Moves.andThen (k.cons (.slcOrder (.release true))) (Csq.returnToShore_moves _)
  · exact .inl (.same _)

theorem Csq.release_moves (s : State) : Csq.Moves s (Csq.release s) := by
  unfold Csq.release
  split
  · exact Csq.Moves.andThen ((Csq.openProc_moves _ _ _ _).handOn (List.subset_append_left _ _))
      (Csq.enter_moves_of _ fun _ => ⟨rfl, rfl⟩)
  all_goals first | exact Csq.supersede_moves _ s | exact .same _

theorem Csq.hardRelease_moves (s : State) : Csq.Moves s (Csq.hardRelease s) := by
  unfold Csq.hardRelease
  split
  case h_1 | h_2 | h_3 | h_4 =>
    refine Csq.Moves.andThen ?_ (Csq.isolateWith_moves _ _ _)
    split
    · exact Csq.openProc_moves _ _ _ s
    · exact .same _
  all_goals exact .same _

theorem Csq.lockoutClear_moves (s : State) : Csq.Moves s (Csq.lockoutClear s) := by
  unfold Csq.lockoutClear
  split
  · split
    · exact Csq.enterRest_moves s
    · exact Csq.enterIsolating_moves false s
  · exact .same _

theorem Csq.transferIn_moves (m : Mode) (s : State) : Csq.Moves s (Csq.transferIn m s) := by
  unfold Csq.transferIn refuse
  split
  · simp only
    repeat' split
    all_goals first
      | exact .same _
      | exact (Csq.openProc_moves _ _ _ s).andThen (Csq.enterProving_moves _ _)
  all_goals exact .same _

theorem Csq.readyMsg_moves (s : State) : Csq.Moves s (Csq.readyMsg s) := by
  unfold Csq.readyMsg refuse
  repeat' split
  all_goals first
    | exact .same _
    | exact Csq.isolateWith_moves _ _ s
    | exact .items id (fun h => h.of_counts rfl) rfl

theorem Csq.unloadedMsg_moves (s : State) : Csq.Moves s (Csq.unloadedMsg s) := by
  unfold Csq.unloadedMsg refuse
  split
  · exact (Csq.endProc_moves _ _ s).andThen (Csq.enterShoreNew_moves _)
  · exact .same _

theorem Csq.handbackMsg_moves (m : Mode) (s : State) : Csq.Moves s (Csq.handbackMsg m s) := by
  have taken (start : Nat) (l : List Handoff) :
      Csq.Moves s (s.setCsq { s.csq with
        proc := some ⟨.handback, m, start, none⟩, marker := some ⟨.handback, m, start⟩ }, l) :=
    .items id (fun h => h.of_counts rfl) rfl
  unfold Csq.handbackMsg refuse
  split
  case h_1 | h_2 =>
    split
    · refine (taken _ []).after (Csq.enter_moves_of _ ?_) (List.nil_subset _) (List.subset_append_right _ _)
      exact fun _ => ⟨rfl, rfl⟩
    · exact .same _
  all_goals exact .same _

theorem Csq.takenMsg_moves (s : State) : Csq.Moves s (Csq.takenMsg s) := by
  unfold Csq.takenMsg refuse
  split
  · split
    · exact Csq.enter_moves s (fun _ h => h) fun _ ⟨h1, h2, h3, h4, _⟩ => ⟨h1, h2, h3, h4, Nat.zero_le _⟩
    · exact .same _
  all_goals exact .same _

theorem Csq.abandonMsg_moves (s : State) : Csq.Moves s (Csq.abandonMsg s) := by
  unfold Csq.abandonMsg refuse
  split
  all_goals first
    | exact .same _
    | exact Csq.supersede_moves _ s
    | exact (Csq.endProc_moves _ _ s).andThen (Csq.returnToShore_moves _)

/-! ### Timers -/

theorem Csq.phaseExpired_moves (s : State) : Csq.Moves s (Csq.phaseExpired s) := by
  have idle : Csq.Moves s (s.setCsq { s.csq with phase := none }, []) :=
    .items id (fun h => h.of_counts rfl) rfl
  have step {o : Out} (h : Csq.Moves (s.setCsq { s.csq with phase := none }) o) : Csq.Moves s o :=
    idle.after h (List.nil_subset _) (fun _ hx => hx)
  unfold Csq.phaseExpired
  split
  · exact .same _
  · simp only
    split
    all_goals first
      | exact idle
      | exact step (Csq.abort_moves _ _ _)
      | exact step (Csq.isolateWith_moves _ _ _)
      | exact step ((Csq.endProc_moves _ _ _).andThen (Csq.returnToShore_moves _))

theorem Csq.releaseExpired_moves (s : State) : Csq.Moves s (Csq.releaseExpired s) := by
  have idle : Csq.Moves s (s.setCsq { s.csq with releaseDelay := none }, []) :=
    .items id (fun h => h.of_counts rfl) rfl
  have step {o : Out} (h : Csq.Moves (s.setCsq { s.csq with releaseDelay := none }) o) : Csq.Moves s o :=
    idle.after h (List.nil_subset _) (fun _ hx => hx)
  unfold Csq.releaseExpired
  split
  · exact .same _
  · simp only
    repeat' split
    all_goals first
      | exact idle
      | exact step (Csq.isolateWith_moves _ _ _)
      | exact step ((Csq.openProc_moves _ _ _ _).andThen (Csq.isolateWith_moves _ _ _))

theorem Csq.slotExpired_moves (s : State) : Csq.Moves s (Csq.slotExpired s) := by
  unfold Csq.slotExpired
  split
  · exact .items id (fun h => h.of_counts rfl) rfl
  · exact .same _

theorem Csq.quietExpired_moves (s : State) : Csq.Moves s (Csq.quietExpired s) := by
  unfold Csq.quietExpired
  split
  · exact .items id (fun h => h.of_counts rfl) rfl
  · exact .same _

theorem Csq.watchExpired_moves (s : State) : Csq.Moves s (Csq.watchExpired s) := by
  unfold Csq.watchExpired
  repeat' split
  all_goals first
    | exact .same _
    | exact .items id (fun h => h.of_counts rfl) rfl

/-! ### Reports of other blocks -/

theorem Csq.entered_moves (n : SeqState) (s : State) : Csq.Moves s (Csq.entered n s) := by
  unfold Csq.entered
  split
  · exact .same _
  · split
    all_goals first
      | exact .same _
      | exact .items id (fun h => h.of_counts rfl) rfl

theorem Csq.latchesReleased_moves (s : State) : Csq.Moves s (Csq.latchesReleased s) := by
  unfold Csq.latchesReleased
  split
  · refine Csq.Moves.andThen ?_ (Csq.enterRest_moves _)
    split
    · exact Csq.endProc_moves _ _ s
    · exact .items id (fun h => h.of_counts rfl) rfl
  · exact .same _

theorem Csq.latchFail_moves (s : State) : Csq.Moves s (Csq.latchFail s) := by
  unfold Csq.latchFail
  split
  · exact Csq.abort_moves _ _ s
  · exact .same _

theorem Csq.plugDisturbed_moves (s : State) : Csq.Moves s (Csq.plugDisturbed s) := by
  unfold Csq.plugDisturbed
  split
  · exact Csq.abort_moves _ _ s
  · exact .same _

theorem Csq.slotHeld_moves (s : State) : Csq.Moves s (Csq.slotHeld s) := by
  unfold Csq.slotHeld
  split
  · refine Csq.Moves.cons (Csq.enter_moves_of s ?_) _
    exact fun _ => ⟨rfl, rfl⟩
  · exact .same _

theorem Csq.deadConfirmed_moves (s : State) : Csq.Moves s (Csq.deadConfirmed s) := by
  unfold Csq.deadConfirmed
  split
  · exact .items id (fun h => h.of_counts rfl) rfl
  · exact .same _

theorem Csq.deadWithdrawn_moves (s : State) : Csq.Moves s (Csq.deadWithdrawn s) := by
  unfold Csq.deadWithdrawn
  split
  · exact Csq.abort_moves _ _ s
  · exact .same _

theorem Csq.closeAccepted_moves (s : State) : Csq.Moves s (Csq.closeAccepted s) :=
  .items id (fun h => h.of_counts rfl) rfl

theorem Csq.negative_moves (s : State) : Csq.Moves s (Csq.negative s) := by
  unfold Csq.negative
  split
  · exact Csq.abort_moves _ _ s
  · exact .same _

theorem Csq.onBreaker_moves (b : BreakerState) (s : State) : Csq.Moves s (Csq.onBreaker b s) := by
  unfold Csq.onBreaker
  split
  · split
    · refine Csq.Moves.cons (Csq.enter_moves_of s ?_) _
      exact fun _ => ⟨rfl, rfl⟩
    · exact .same _
  · split
    · exact Csq.Moves.cons ((Csq.endProc_moves _ _ s).andThen (Csq.enterShoreNew_moves _)) _
    · exact .same _
  all_goals exact .same _

theorem Csq.closeFailed_moves (s : State) : Csq.Moves s (Csq.closeFailed s) := by
  unfold Csq.closeFailed
  split
  · split
    · have counted : Csq.Moves s (s.setCsq { s.csq with closeFail := 1 }, []) :=
        .items id (fun ⟨h1, h2, h3, _, h5⟩ => ⟨h1, h2, h3, Nat.le_refl _, h5⟩) rfl
      exact counted.after (Csq.abort_moves _ _ _) (List.nil_subset _) (fun _ hx => hx)
    · exact Csq.fail_moves _ _ s
  · exact .same _

theorem Csq.shoreLoss_moves (s : State) : Csq.Moves s (Csq.shoreLoss s) := by
  unfold Csq.shoreLoss
  split
  all_goals first | exact Csq.abort_moves _ _ s | exact .same _

theorem Csq.linkLoss_moves (s : State) : Csq.Moves s (Csq.linkLoss s) := by
  unfold Csq.linkLoss
  split
  all_goals first | exact Csq.abort_moves _ _ s | exact .same _

/-! ### Trips, reading sets, due moves and the end of the census -/

theorem Csq.tripped_moves (x : Source) (s : State) : Csq.Moves s (Csq.tripped x s) := by
  have masked (l : List Handoff) : Csq.Moves s (s.setCsq { s.csq with mask := true }, l) :=
    .items (fun _ => rfl) (fun h => h.of_counts rfl) rfl
  have step {o : Out} (h : Csq.Moves (s.setCsq { s.csq with mask := true }) o) :
      Csq.Moves s (o.1, .atuSources :: o.2) :=
    (masked []).after h (List.nil_subset _) (List.subset_cons_self _ _)
  unfold Csq.tripped
  simp only
  split
  all_goals first
    | exact .same _
    | exact masked _
    | exact step (Csq.abort_moves _ _ _)
    | exact step (Csq.Moves.andThen ((Csq.endFallback_moves _ _ _).cons _) (Csq.enterIsolating_moves _ _))
    | exact step (Csq.Moves.andThen ((Csq.endProc_moves _ _ _).cons _) (Csq.enterIsolating_moves _ _))

theorem Csq.trippedFatal_moves (x : Source) (s : State) : Csq.Moves s (Csq.trippedFatal x s) := by
  unfold Csq.trippedFatal
  simp only
  split
  all_goals first
    | exact .same _
    | exact .items (fun _ => rfl) (fun h => h.of_counts rfl) rfl
    | exact Csq.enterLockout_moves s
    | exact Csq.fail_moves _ _ s
    | exact (Csq.fail_moves _ _ s).cons _
    | exact Csq.Moves.andThen ((Csq.endFallback_moves _ _ _).cons _) (Csq.enterLockout_moves _)

theorem Csq.notice_moves (x : Source) (s : State) : Csq.Moves s (Csq.notice x s) := by
  unfold Csq.notice
  split
  · exact Csq.trippedFatal_moves x s
  · exact Csq.tripped_moves x s

/-- The sequencer after the connection peak has followed S (R36). -/
theorem Csq.onSet_moves (r : ReadingSet) (s : State) : Csq.Moves s (Csq.onSet r s) := by
  have peak : Csq.Moves s
      (if s.csq.state.peaking then s.setCsq { s.csq with peak := max s.csq.peak r.s } else s, []) := by
    split
    · exact .items id (fun h => h.of_counts rfl) rfl
    · exact .same _
  unfold Csq.onSet
  simp only
  generalize (if s.csq.state.peaking then s.setCsq { s.csq with peak := max s.csq.peak r.s } else s) = u at peak ⊢
  have step {o : Out} (h : Csq.Moves u o) : Csq.Moves s o := peak.after h (List.nil_subset _) (fun _ hx => hx)
  refine step ?_
  split
  · split
    · have counted : Csq.Moves u (u.setCsq { u.csq with unloadRun := min 10 (u.csq.unloadRun + 1) }, []) :=
        .items id (fun ⟨h1, h2, h3, h4, _⟩ => ⟨h1, h2, h3, h4, Nat.min_le_left _ _⟩) rfl
      split
      · exact counted.after (Csq.isolateWith_moves _ _ _) (List.nil_subset _) (fun _ hx => hx)
      · exact counted
    · exact .items id (fun ⟨h1, h2, h3, h4, _⟩ => ⟨h1, h2, h3, h4, Nat.zero_le _⟩) rfl
  case h_2 | h_3 =>
    repeat' split
    all_goals first
      | exact .same _
      | exact .items id (fun h => h.of_counts rfl) rfl
  all_goals exact .same _

theorem Csq.popRecord_moves (s : State) : Csq.Moves s (Csq.popRecord s) :=
  .items id (fun ⟨h1, h2, h3, h4, h5⟩ =>
    ⟨Nat.le_trans (by rw [List.length_drop]; exact Nat.sub_le _ _) h1, h2, h3, h4, h5⟩) rfl

theorem Csq.firstState_moves (s : State) : Csq.Moves s (Csq.firstState s) := by
  unfold Csq.firstState
  split
  · exact Csq.enterLockout_moves s
  · split
    · simp only
      split
      · exact (Csq.enterIsolating_moves false s).cons _
      · exact Csq.enterIsolating_moves false s
    · exact Csq.enterRest_moves s

theorem Csq.due_moves {s : State} {o : Out} (h : Csq.due s = some o) : Csq.Moves s o := by
  unfold Csq.due at h
  repeat' split at h
  all_goals first
    | (cases h; exact Csq.enter_id_moves _ s)
    | (cases h; exact Csq.enterVacant_moves s)
    | cases h

/-! ### Hand-offs, due moves and commands -/

/-- Only the sequencer's own answer reaches the sequencer: every hand-off is one of its moves, or leaves it alone. -/
theorem handle_moves (x : Handoff) (s : State) : Csq.Moves s (handle x s) := by
  by_cases hr : x.reach.contains .csq = false
  · have e := (handle_within x s).csq hr
    exact ⟨fun h => by rw [e]; exact h, fun h => by rw [e]; exact h, .inl (by rw [e])⟩
  rw [Bool.not_eq_false] at hr
  cases x with
  | csqNotice y => exact Csq.notice_moves y s
  | csqBreaker b => exact Csq.onBreaker_moves b s
  | csqCloseAccepted => exact Csq.closeAccepted_moves s
  | csqCloseFailed => exact Csq.closeFailed_moves s
  | csqLatchFail => exact Csq.latchFail_moves s
  | csqPlugDisturbed => exact Csq.plugDisturbed_moves s
  | csqLatchesReleased => exact Csq.latchesReleased_moves s
  | csqSlotHeld => exact Csq.slotHeld_moves s
  | csqDeadConfirmed => exact Csq.deadConfirmed_moves s
  | csqDeadWithdrawn => exact Csq.deadWithdrawn_moves s
  | csqNegative => exact Csq.negative_moves s
  | csqShoreLoss => exact Csq.shoreLoss_moves s
  | csqLinkLoss => exact Csq.linkLoss_moves s
  | csqEntered n => exact Csq.entered_moves n s
  | csqAntiPumpEnded | csqLatchesEngaged | csqSwitch | csqFloorHeld | csqPermit | csqPermitWithdrawn => exact .same _
  | _ => exact absurd hr Bool.false_ne_true

theorem due_moves {s : State} {o : Out} (h : s.due = some o) : Csq.Moves s o := by
  have other (e : o.1.csq = s.csq) : Csq.Moves s o :=
    ⟨fun h => by rw [e]; exact h, fun h => by rw [e]; exact h, .inl (by rw [e])⟩
  rcases due_cases h with h | h | h | h | h
  · exact other ((Esd.due_only s o h).within.csq rfl)
  · exact other (by rw [Psm.due_eq h]; rfl)
  · exact other (by rw [Esd.ownRequest_eq h]; exact (Esd.closeRequest_only s).within.csq rfl)
  · exact Csq.due_moves h
  · exact other (by rw [Tbc.due_eq h]; exact (Tbc.begin_only s).within.csq rfl)

/-- A part of the answer that leaves the sequencer as it is changes nothing of what is said of its moves. -/
theorem Csq.Moves.of_csq_eq {s u : State} {o : Out} (h : Csq.Moves u o) (e : u.csq = s.csq) : Csq.Moves s o :=
  ⟨fun hm => h.mask (by rw [e]; exact hm), fun ho => h.ordered (by rw [e]; exact ho),
    h.handed.imp (fun hs => by rw [hs, e]) id⟩

theorem Csq.Moves.of_eq {s : State} {o : Out} (e : o.1.csq = s.csq) : Csq.Moves s o :=
  ⟨fun h => by rw [e]; exact h, fun h => by rw [e]; exact h, .inl (by rw [e])⟩

theorem Pnl.press_moves (b : Button) {report : State → Out} (h : ∀ s, Csq.Moves s (report s)) (s : State) :
    Csq.Moves s (Pnl.press b report s) := by
  unfold Pnl.press
  simp only
  split
  · exact (h _).of_csq_eq rfl
  · exact .same _

theorem Pnl.held_moves (b : Button) {report : State → Out} (h : ∀ s, Csq.Moves s (report s)) (s : State) :
    Csq.Moves s (Pnl.held b report s) := by
  unfold Pnl.held
  simp only
  split
  · exact (h _).of_csq_eq rfl
  · exact .same _

theorem Slc.request_moves {f : State → Out} (h : ∀ s, Csq.Moves s (f s)) (s : State) :
    Csq.Moves s (Slc.request f s) := by
  unfold Slc.request
  split
  · exact (h _).of_csq_eq rfl
  · exact .same _

theorem Slc.message_moves {f : State → Out} (h : ∀ s, Csq.Moves s (f s)) (s : State) :
    Csq.Moves s (Slc.message f s) := by
  unfold Slc.message
  split
  · exact .same _
  · exact (h _).of_csq_eq rfl

theorem Slc.dispatch_moves (kind : Nat) (d : List Byte) (s : State) : Csq.Moves s (Slc.dispatch kind d s) := by
  unfold Slc.dispatch
  simp only
  split
  · exact .of_eq ((Slc.shipHello_within d s).csq rfl)
  · exact .of_eq ((Slc.shipStatus_within d s).csq rfl)
  · exact Slc.request_moves (Csq.transferIn_moves _) s
  · exact Slc.request_moves Csq.readyMsg_moves s
  · exact Slc.request_moves Csq.unloadedMsg_moves s
  · exact Slc.request_moves (Csq.handbackMsg_moves _) s
  · exact Slc.request_moves Csq.takenMsg_moves s
  · exact Slc.request_moves Csq.abandonMsg_moves s
  · exact .same _

theorem Slc.receive_moves (b : Byte) (e : Bool) (s : State) : Csq.Moves s (Slc.receive b e s) := by
  have hunt : Csq.Moves s (Slc.hunt s) := .of_eq rfl
  unfold Slc.receive
  simp only
  split; · exact .same _
  split
  · split <;> exact .of_eq rfl
  split; · exact hunt
  split; · exact hunt
  split
  · refine hunt.andThen ?_
    split
    · exact Slc.dispatch_moves _ _ _
    · exact .same _
  · exact .of_eq rfl

/-- R130, R131: what a heard frame does, by the outcome of its tests. -/
def Tbc.act (ident : BitVec 11) (d : List Byte) (s : State) : Out :=
  match reception s.own ident d with
  | .disregarded => (s, [])
  | .ownNumber => Tbc.ownNumber s
  | .passed kind b => Tbc.deal kind b d s

theorem Tbc.frame_of_onBus (ident : BitVec 11) (d : List Byte) {s : State} (h : s.tbc.can.onBus = true) :
    Tbc.frame ident d s = Tbc.act ident d s.heard := by
  unfold Tbc.frame Tbc.receive
  rw [if_pos h]
  rfl

theorem Tbc.frame_of_offBus (ident : BitVec 11) (d : List Byte) {s : State} (h : s.tbc.can.onBus = false) :
    Tbc.frame ident d s = (s, []) := by
  unfold Tbc.frame Tbc.receive
  rw [if_neg (by simp [h])]

theorem Tbc.act_cases (ident : BitVec 11) (d : List Byte) (s : State) :
    (reception s.own ident d = .disregarded ∧ Tbc.act ident d s = (s, [])) ∨
      (reception s.own ident d = .ownNumber ∧ Tbc.act ident d s = Tbc.ownNumber s) ∨
      ∃ kind b, reception s.own ident d = .passed kind b ∧ Tbc.act ident d s = Tbc.deal kind b d s := by
  unfold Tbc.act
  split
  · exact .inl ⟨‹_›, rfl⟩
  · exact .inr (.inl ⟨‹_›, rfl⟩)
  · exact .inr (.inr ⟨_, _, ‹_›, rfl⟩)

theorem Tbc.onQuery_moves (d : List Byte) (s : State) : Csq.Moves s (Tbc.onQuery d s) := by
  have one (item : Nat) (i : List Byte) {f : State → Out} (h : ∀ s, Csq.Moves s (f s)) :
      Csq.Moves s (Tbc.query item i f s) := by
    unfold Tbc.query
    split
    · exact (h _).of_csq_eq rfl
    · exact .same _
  unfold Tbc.onQuery
  simp only
  split
  all_goals first
    | exact one _ _ fun s => .same _
    | exact one _ _ Csq.popRecord_moves
    | exact .same _

theorem Tbc.deal_moves (kind : BusKind) (b : Nat) (d : List Byte) (s : State) : Csq.Moves s (Tbc.deal kind b d s) := by
  cases kind with
  | query =>
    show Csq.Moves s (Tbc.forOwn d (Tbc.onQuery d) s)
    unfold Tbc.forOwn
    split
    · exact Tbc.onQuery_moves d s
    · exact .same _
  | status => exact .of_eq ((Tbc.onStatus_within d b s).csq rfl)
  | bid => exact .of_eq ((Tbc.onBid_within d b s).csq rfl)
  | object => exact .of_eq ((Clu.onObject_within _ _ s).csq rfl)
  | stepFree => exact .of_eq ((Clu.onStepFree_within b s).csq rfl)
  | ackTrip => exact .of_eq ((Tbc.forOwn_within d (fun s => (Ptu.acknowledge_only _ s).within) s).csq rfl)
  | control => exact .of_eq ((Tbc.forOwn_within d (Tbc.onControl_within d) s).csq rfl)
  | stepBid | reply => exact .of_eq rfl

theorem Tbc.frame_moves (ident : BitVec 11) (d : List Byte) (s : State) : Csq.Moves s (Tbc.frame ident d s) := by
  cases hb : s.tbc.can.onBus with
  | false => rw [Tbc.frame_of_offBus ident d hb]; exact .same _
  | true =>
    rw [Tbc.frame_of_onBus ident d hb]
    refine Csq.Moves.of_csq_eq (u := s.heard) ?_ rfl
    obtain ⟨-, e⟩ | ⟨-, e⟩ | ⟨kind, b, -, e⟩ := Tbc.act_cases ident d s.heard <;> rw [e]
    · exact .same _
    · exact .of_eq ((Tbc.ownNumber_within _).csq rfl)
    · exact Tbc.deal_moves kind b d _

theorem State.censusEnd_moves (s : State) : Csq.Moves s s.censusEnd := by
  unfold State.censusEnd
  simp only
  split
  · split
    · exact (Csq.firstState_moves _).of_csq_eq rfl
    · exact .of_eq rfl
  · exact .same _

/-- A property of the sequencer's items that its moves keep is kept by a cascade. -/
theorem setConsumers_moves (r : ReadingSet) (lost going : Bool) :
    ∀ f ∈ setConsumers r lost going, ∀ s, Csq.Moves s (f s) := by
  intro f hf s
  have hf' : f ∈ [Psm.reevaluate, Spv.onSet r lost, Syc.onSet r lost, Ptu.onSet r, Shc.onSet r, Psm.onSet r,
    Clu.onSet r,
      Csq.onSet r] := by
    revert hf; unfold setConsumers; split <;> simp +contextual
  simp only [List.mem_cons, List.not_mem_nil, or_false] at hf'
  rcases hf' with rfl | rfl | rfl | rfl | rfl | rfl | rfl | rfl
  · exact .of_eq rfl
  · exact .of_eq ((Spv.onSet_within r lost s).csq rfl)
  · exact .of_eq ((Syc.onSet_within r lost s).csq rfl)
  · exact .of_eq rfl
  · exact .of_eq ((Shc.onSet_only r s).within.csq rfl)
  · exact .of_eq ((Psm.onSet_only r s).within.csq rfl)
  · exact .of_eq ((Clu.onSet_within r s).csq rfl)
  · exact Csq.onSet_moves r s

theorem lossConsumers_moves : ∀ f ∈ lossConsumers, ∀ s, Csq.Moves s (f s) := by
  intro f hf s
  simp only [lossConsumers, List.mem_cons, List.not_mem_nil, or_false] at hf
  rcases hf with rfl | rfl | rfl | rfl <;> exact .of_eq rfl

end Sys2Proof.Machine

namespace Sys2Proof.Machine

theorem Csq.atLoad_moves (external : Bool) (s : State) :
    Csq.Moves s (s.setCsq (s.csq.atLoad external), []) := by
  have clock : Csq.Moves s (s.setCsq { s.csq with clockMs := 0 }, []) := .items id (fun h => h.of_counts rfl) rfl
  unfold Csq.atLoad
  simp only
  split
  · unfold Csq.resetRecord
    split
    · exact clock
    · exact .items id (fun h => Csq.write_ordered (clock.ordered h) rfl) rfl
  · exact clock

theorem State.loadEnd_moves (d : List Byte) (s : State) : Csq.Moves s (s.loadEnd d) := by
  unfold State.loadEnd
  split
  · split
    · exact ⟨(Csq.atLoad_moves s.cfl.external s).mask, (Csq.atLoad_moves s.cfl.external s).ordered, .inl (by
        show (s.csq.atLoad s.cfl.external).state = _
        unfold Csq.atLoad Csq.resetRecord
        simp only
        (repeat' split) <;> rfl)⟩
    · exact .of_eq rfl
  · exact .same _

/-- The commands whose own block is outside `Csq.Moves`: the two resets, the offering of a set or of a check event to the
blocks, and a CONNECT press. -/
def reshapesSequencer : Instr → Bool
  | .powerOn _ | .resetAsserted | .meteringDelivery _ | .checkEvent | .connectPress => true
  | _ => false

theorem answer_moves {c : Instr} (hc : reshapesSequencer c = false) (s : State) : Csq.Moves s (answer c s) := by
  by_cases hr : (commandReach c).contains .csq = false
  · exact .of_eq ((answer_within c s).csq hr)
  rw [Bool.not_eq_false] at hr
  cases c with
  | powerOn | resetAsserted | meteringDelivery | checkEvent | connectPress =>
    exact absurd hc Bool.true_eq_false_eq_False
  | configLoadEnd d => exact State.loadEnd_moves d s
  | censusTimerExpiry => exact State.censusEnd_moves s
  | phaseTimerExpiry => exact Csq.phaseExpired_moves s
  | releaseDelayExpiry => exact Csq.releaseExpired_moves s
  | slotTimerExpiry => exact Csq.slotExpired_moves s
  | quietTimerExpiry => exact Csq.quietExpired_moves s
  | isolatingWatchExpiry => exact Csq.watchExpired_moves s
  | releasePress => exact Pnl.press_moves _ Csq.release_moves s
  | hardRelease => exact Pnl.held_moves _ Csq.hardRelease_moves s
  | lockoutClear => exact Pnl.held_moves _ Csq.lockoutClear_moves s
  | transferIn m => exact Slc.message_moves (Slc.request_moves (Csq.transferIn_moves _)) s
  | ready => exact Slc.message_moves (Slc.request_moves Csq.readyMsg_moves) s
  | unloaded => exact Slc.message_moves (Slc.request_moves Csq.unloadedMsg_moves) s
  | handback m => exact Slc.message_moves (Slc.request_moves (Csq.handbackMsg_moves _)) s
  | taken => exact Slc.message_moves (Slc.request_moves Csq.takenMsg_moves) s
  | abandon => exact Slc.message_moves (Slc.request_moves Csq.abandonMsg_moves) s
  | shipLinkByteReceived b e => exact Slc.receive_moves b e s
  | status i d | bid i d | object i d | stepBid i d | stepFree i d | querySummary i d | queryPeer i d | ackTrip i d
  | clearAttention i d | forgetPeer i d => exact Tbc.frame_moves i d s
  | queryTrip f | queryResult f => exact Tbc.frame_moves f.ident f.data s
  | _ => exact absurd hr Bool.false_ne_true

/-! ### The offering of a set and of a check event -/

theorem forall_setConsumers {r : ReadingSet} {lost going : Bool} {Q : (State → Out) → Prop} (hpsm : Q Psm.reevaluate)
    (hspv : Q (Spv.onSet r lost)) (hsyc : Q (Syc.onSet r lost)) (hptu : Q (Ptu.onSet r)) (hshc : Q (Shc.onSet r))
    (hlive : Q (Psm.onSet r)) (hclu : Q (Clu.onSet r)) (hcsq : Q (Csq.onSet r)) :
    ∀ f ∈ setConsumers r lost going, Q f := by
  intro f hf
  have hf' : f ∈ [Psm.reevaluate, Spv.onSet r lost, Syc.onSet r lost, Ptu.onSet r, Shc.onSet r, Psm.onSet r,
    Clu.onSet r,
      Csq.onSet r] := by
    revert hf; unfold setConsumers; split <;> simp +contextual
  simp only [List.mem_cons, List.not_mem_nil, or_false] at hf'
  rcases hf' with rfl | rfl | rfl | rfl | rfl | rfl | rfl | rfl <;> assumption

theorem forall_lossConsumers {Q : (State → Out) → Prop} (hptu : Q Ptu.meteringOnset) (hpsm : Q Psm.meteringOnset)
    (hspv : Q Spv.meteringOnset) (hsyc : Q Syc.meteringOnset) : ∀ f ∈ lossConsumers, Q f := by
  intro f hf
  simp only [lossConsumers, List.mem_cons, List.not_mem_nil, or_false] at hf
  rcases hf with rfl | rfl | rfl | rfl <;> assumption

/-- What a delivery keeps: it stands where the set is not offered, and is kept by the hand-offs and by each consumer of
the accepted set. -/
theorem Mtp.deliver_keeps (P : State → Prop) (hhandle : ∀ x t, P t → P (handle x t).1) {bits : List Bool} {s : State}
    (h : P s) (hdiscard : P (s.setMtp s.mtp.discard))
    (haccept : s.running = true → P (s.setMtp (s.mtp.accept (readingSetOf (bytesOfBits bits)))))
    (hset : ∀ going, ∀ f ∈ setConsumers (readingSetOf (bytesOfBits bits)) s.mtp.lost going, ∀ t, P t → P (f t).1) :
    P (Mtp.deliver bits s) := by
  unfold Mtp.deliver
  simp only
  split; · exact h
  next hr =>
  split; · exact hdiscard
  exact inTurn_keeps P hhandle _ (hset _) _ (haccept (by simpa using hr))

/-- What a check event keeps. -/
theorem Mtp.checkEvent_keeps (P : State → Prop) (hhandle : ∀ x t, P t → P (handle x t).1) {s : State}
    (h : P s) (hchecked : P (s.setMtp s.mtp.checked)) (hset : ∀ f ∈ lossConsumers, ∀ t, P t → P (f t).1) :
    P (Mtp.checkEvent s) := by
  unfold Mtp.checkEvent
  simp only
  split; · exact h
  split
  · exact inTurn_keeps P hhandle _ hset _ hchecked
  · exact hchecked

/-! ### What only certain commands can change -/

/-- R40, R62: no command but a CONNECT press clears the re-transfer mask. -/
theorem after_mask {c : Instr} {s : State} (hc : c ≠ .connectPress) (h : s.csq.mask = true) :
    (after c s).csq.mask = true := by
  refine after_keeps (fun t => t.csq.mask = true) (fun x t => (handle_moves x t).mask)
    (fun t o ho => (due_moves ho).mask) (fun t h => h) ?_
  cases hm : reshapesSequencer c with
  | false => exact (answer_moves hm s).mask h
  | true =>
    cases c with
    | powerOn | resetAsserted => rfl
    | meteringDelivery bits =>
      exact Mtp.deliver_keeps (fun t => t.csq.mask = true) (fun x t => (handle_moves x t).mask) h h (fun _ => h)
        fun going f hf t => (setConsumers_moves _ _ going f hf t).mask
    | checkEvent =>
      exact Mtp.checkEvent_keeps (fun t => t.csq.mask = true) (fun x t => (handle_moves x t).mask) h h
        fun f hf t => (lossConsumers_moves f hf t).mask
    | connectPress => exact absurd rfl hc
    | _ => exact absurd hm Bool.false_ne_true

theorem Tbc.deal_ptu {kind : BusKind} (hk : kind ≠ .ackTrip) (b : Nat) (d : List Byte) (s : State) :
    (Tbc.deal kind b d s).1.ptu = s.ptu := by
  cases kind with
  | ackTrip => exact absurd rfl hk
  | status => exact (Tbc.onStatus_within d b s).ptu rfl
  | bid => exact (Tbc.onBid_within d b s).ptu rfl
  | object => exact (Clu.onObject_within _ _ s).ptu rfl
  | stepFree => exact (Clu.onStepFree_within b s).ptu rfl
  | query => exact (Tbc.forOwn_within d (Tbc.onQuery_within d) s).ptu rfl
  | control => exact (Tbc.forOwn_within d (Tbc.onControl_within d) s).ptu rfl
  | stepBid | reply => rfl

/-- R108, R141: of the frames, only one with the identifier of an ACK-TRIP reaches the protection unit. -/
theorem Tbc.frame_ptu {ident : BitVec 11} (h : ident.toNat ≠ 448) (d : List Byte) (s : State) :
    (Tbc.frame ident d s).1.ptu = s.ptu := by
  cases hb : s.tbc.can.onBus with
  | false => rw [Tbc.frame_of_offBus ident d hb]
  | true =>
    rw [Tbc.frame_of_onBus ident d hb]
    obtain ⟨-, e⟩ | ⟨-, e⟩ | ⟨kind, b, hr, e⟩ := Tbc.act_cases ident d s.heard <;> rw [e]
    · rfl
    · exact (Tbc.ownNumber_within _).ptu rfl
    · refine Tbc.deal_ptu (fun hk => h ?_) b d s.heard
      obtain ⟨hkind, hsender, -, -, hsent, -⟩ := (reception_passed _ _ _ _ _).mp hr
      subst hk
      have h0 : b = 0 := by simpa [BusKind.sentBy] using hsent
      simp only [BusKind.code] at hkind
      omega

theorem Ptu.detectOvercurrent_latched (r : ReadingSet) (n : Nat) (p : Ptu) :
    (p.detectOvercurrent r n).1.latched = p.latched := by
  unfold Ptu.detectOvercurrent; split <;> rfl

theorem Ptu.detectEarthFault_latched (r : ReadingSet) (n : Nat) (p : Ptu) :
    (p.detectEarthFault r n).1.latched = p.latched := by
  unfold Ptu.detectEarthFault; split <;> rfl

theorem Ptu.detectOverload_latched (r : ReadingSet) (k : Nat) (b : BreakerState) (p : Ptu) :
    (p.detectOverload r k b).1.latched = p.latched := by
  unfold Ptu.detectOverload; split <;> rfl

theorem Ptu.detectReverse_latched (r : ReadingSet) (n : Nat) (b : BreakerState) (c : SeqState) (p : Ptu) :
    (p.detectReverse r n b c).1.latched = p.latched := by
  unfold Ptu.detectReverse; (repeat' split) <;> rfl

theorem Ptu.onSet_latched (r : ReadingSet) (s : State) : (Ptu.onSet r s).1.ptu.latched = s.ptu.latched := by
  simp only [Ptu.onSet, State.setPtu_ptu, Ptu.detectReverse_latched, Ptu.detectOverload_latched,
    Ptu.detectEarthFault_latched, Ptu.detectOvercurrent_latched]

/-- The latched sources of `s` stay latched, as the hand-offs and the consumers of a set keep them. -/
theorem setConsumers_latched_subset (r : ReadingSet) (lost going : Bool) {xs : List Source} :
    ∀ f ∈ setConsumers r lost going, ∀ t, xs ⊆ t.ptu.latched → xs ⊆ (f t).1.ptu.latched := by
  refine forall_setConsumers (fun t h => h) (fun t h => ?_) (fun t h => ?_) (fun t h => ?_) (fun t h => ?_)
    (fun t h => ?_) (fun t h => ?_) (fun t h => ?_)
  · rwa [(Spv.onSet_within _ _ t).ptu rfl]
  · rwa [(Syc.onSet_within _ _ t).ptu rfl]
  · rwa [Ptu.onSet_latched]
  · rwa [(Shc.onSet_only _ t).within.ptu rfl]
  · rwa [(Psm.onSet_only _ t).within.ptu rfl]
  · rwa [(Clu.onSet_within _ t).ptu rfl]
  · rwa [(Csq.onSet_only _ t).within.ptu rfl]

/-- The commands whose own block can take a source out of the latched set. -/
def Unlatching (c : Instr) : Prop :=
  c = .ackPress ∨ (∃ f, frameOf c = some f ∧ f.ident.toNat = 448) ∨ ∃ n, c = .powerOn n

/-- R96, R107 to R111. -/
theorem after_latched_subset {c : Instr} (s : State) (hc : ¬Unlatching c) : s.ptu.latched ⊆ (after c s).ptu.latched :=
    by
  refine after_keeps (fun t => s.ptu.latched ⊆ t.ptu.latched) (fun x t k =>
    List.Subset.trans k (handle_latched_subset x t))
    (fun t o ho k => List.Subset.trans k (due_latched_subset ho)) (fun t k => k) ?_
  by_cases hr : (commandReach c).contains .ptu = false
  · exact latched_subset_of_eq ((answer_within c s).ptu hr)
  rw [Bool.not_eq_false] at hr
  have frame {i : BitVec 11} {d : List Byte} (h : ¬i.toNat = 448) :
      s.ptu.latched ⊆ (Tbc.frame i d s).1.ptu.latched := latched_subset_of_eq (Tbc.frame_ptu h d s)
  cases c with
  | powerOn n => exact absurd (.inr (.inr ⟨n, rfl⟩)) hc
  | ackPress => exact absurd (.inl rfl) hc
  | resetAsserted => exact List.Subset.refl _
  | configLoadEnd d =>
    show _ ⊆ (s.loadEnd d).1.ptu.latched
    unfold State.loadEnd
    (repeat' split) <;> exact List.Subset.refl _
  | meteringDelivery bits =>
    exact Mtp.deliver_keeps (fun t => s.ptu.latched ⊆ t.ptu.latched) (fun x t k =>
      List.Subset.trans k (handle_latched_subset x t))
      (List.Subset.refl _) (List.Subset.refl _) (fun _ => List.Subset.refl _)
      fun going => setConsumers_latched_subset _ _ going
  | checkEvent =>
    exact Mtp.checkEvent_keeps (fun t => s.ptu.latched ⊆ t.ptu.latched) (fun x t k =>
      List.Subset.trans k (handle_latched_subset x t))
      (List.Subset.refl _) (List.Subset.refl _) (forall_lossConsumers (fun _ => id) (fun _ => id) (fun _ => id) fun _ =>
        id)
  | estopChange b =>
    show _ ⊆ (Ptu.estop b s).1.ptu.latched
    unfold Ptu.estop
    simp only
    split <;> exact List.Subset.refl _
  | status i d | bid i d | object i d | stepBid i d | stepFree i d | querySummary i d | queryPeer i d | ackTrip i d
  | clearAttention i d | forgetPeer i d => exact frame fun h => hc (.inr (.inl ⟨⟨i, d⟩, rfl, h⟩))
  | queryTrip f | queryResult f => exact frame fun h => hc (.inr (.inl ⟨f, rfl, h⟩))
  | _ => exact absurd hr Bool.false_ne_true

/-- Settles O60: each part by what the command's own block reaches, the rest of the cascade clearing no mask, removing no
source and leaving the lines and the port alone. -/
theorem onlyTheirCommandsReachThem : Obligations.OnlyTheirCommandsReachThem := by
  intro c s t h
  have ht := after_eq_of_exec h
  refine ⟨fun hm hm' => ?mask, fun x hx hx' => ?latched, fun hp => ?pins, fun hp => ?mtp⟩
  case mask =>
    by_contra hc
    rw [ht, after_mask hc hm] at hm'
    exact absurd hm' Bool.true_eq_false_eq_False
  case latched =>
    by_contra hc
    rw [ht] at hx'
    exact hx' (after_latched_subset s hc hx)
  case pins =>
    have hr : (commandReach c).contains .pins = true := by
      by_contra hr
      exact hp (by rw [ht, (after_kept c s).pins, (answer_within c s).pins (Bool.not_eq_true _ ▸ hr)])
    cases c with
    | pilotMade i => exact .inl ⟨i, .inl rfl⟩
    | pilotOpened i => exact .inl ⟨i, .inr rfl⟩
    | earthchkChange b => exact .inr (.inl ⟨b, .inl rfl⟩)
    | estopChange b => exact .inr (.inl ⟨b, .inr rfl⟩)
    | latchFeedbackChange i b => exact .inr (.inr (.inl ⟨i, b, rfl⟩))
    | eswPositionChange a b => exact .inr (.inr (.inr (.inl ⟨a, b, .inl rfl⟩)))
    | auxContactChange a b => exact .inr (.inr (.inr (.inl ⟨a, b, .inr rfl⟩)))
    | buttonInputChange b p => exact .inr (.inr (.inr (.inr ⟨b, p, rfl⟩)))
    | _ => exact absurd hr Bool.false_ne_true
  case mtp =>
    have hr : (commandReach c).contains .mtp = true := by
      by_contra hr
      exact hp (by rw [ht, (after_kept c s).mtp, (answer_within c s).mtp (Bool.not_eq_true _ ▸ hr)])
    cases c with
    | powerOn | resetAsserted | configLoadEnd => exact .inl rfl
    | meteringDelivery d => exact .inr (.inl ⟨d, rfl⟩)
    | checkEvent => exact .inr (.inr (.inl rfl))
    | censusTimerExpiry => exact .inr (.inr (.inr rfl))
    | _ => exact absurd hr Bool.false_ne_true

end Sys2Proof.Machine

namespace Sys2Proof.Machine

/-! ### The trip record in order -/

theorem Ptu.Ordered.detectOvercurrent {p : Ptu} (h : p.Ordered) (r : ReadingSet) (n : Nat) :
    (p.detectOvercurrent r n).1.Ordered := by
  unfold Ptu.detectOvercurrent
  split
  · exact { h with overcurrentRun_le := Nat.min_le_left _ _ }
  · exact { h with overcurrentRun_le := Nat.zero_le _ }

theorem Ptu.Ordered.detectEarthFault {p : Ptu} (h : p.Ordered) (r : ReadingSet) (n : Nat) :
    (p.detectEarthFault r n).1.Ordered := by
  unfold Ptu.detectEarthFault
  split
  · exact { h with earthRun_le := Nat.min_le_left _ _ }
  · exact { h with earthRun_le := Nat.zero_le _ }

theorem Ptu.Ordered.detectOverload {p : Ptu} (h : p.Ordered) (r : ReadingSet) (k : Nat) (b : BreakerState) :
    (p.detectOverload r k b).1.Ordered := by
  unfold Ptu.detectOverload
  split <;> exact { h with }

theorem Ptu.Ordered.detectReverse {p : Ptu} (h : p.Ordered) (r : ReadingSet) (n : Nat) (b : BreakerState)
    (c : SeqState) : (p.detectReverse r n b c).1.Ordered := by
  unfold Ptu.detectReverse
  split
  · exact { h with reverseRun_le := Nat.zero_le _ }
  split
  · exact { h with reverseRun_le := Nat.min_le_left _ _ }
  · exact { h with reverseRun_le := Nat.zero_le _ }

theorem Ptu.onSet_ordered {s : State} (h : s.ptu.Ordered) (r : ReadingSet) : (Ptu.onSet r s).1.ptu.Ordered :=
  (((h.detectOvercurrent r _).detectEarthFault r _).detectOverload r _ _).detectReverse r _ _ _

/-- R96: an onset keeps the record in order. -/
theorem Ptu.onset_ordered {s : State} (h : s.ptu.Ordered) (x : Source) : (Ptu.onset x s).1.ptu.Ordered := by
  unfold Ptu.onset
  split
  · exact h
  next hx =>
  have hx : x ∉ s.ptu.latched := by simpa using hx
  have nodup : (s.ptu.latched ++ [x]).Nodup := by
    rw [List.nodup_append]
    exact ⟨h.latched_nodup, List.nodup_singleton x, by rintro a ha b hb rfl; simp_all⟩
  simp only
  split
  · exact { h with latched_nodup := nodup, firstOut_iff := by simp, age_le := Nat.zero_le _, age_empty := fun _ => rfl }
  next he =>
    exact { h with
      latched_nodup := nodup
      firstOut_iff := by
        show s.ptu.firstOut.isSome = _
        rw [h.firstOut_iff, Bool.eq_false_iff.mpr he, Bool.not_false]
        simp
      age_empty := by simp }

theorem Ptu.condition_ordered {s : State} (h : s.ptu.Ordered) (x : Source) : (Ptu.condition x s).1.ptu.Ordered := by
  unfold Ptu.condition
  split
  · exact h
  · exact Ptu.onset_ordered h x

/-- R107 to R109: an acknowledge keeps the record in order. -/
theorem Ptu.acknowledge_ordered {s : State} (h : s.ptu.Ordered) (scope : List Source) :
    (Ptu.acknowledge scope s).1.ptu.Ordered := by
  unfold Ptu.acknowledge
  split
  · exact h
  simp only
  split
  · exact h
  have nodup := h.latched_nodup.filter fun x => !(scope.contains x && s.eligible x)
  split
  next he =>
    exact { h with latched_nodup := nodup, firstOut_iff := (congrArg (!·) he).symm, age_le := Nat.zero_le _, age_empty := fun _ => rfl }
  next he =>
    have hne : s.ptu.latched.isEmpty = false := by
      cases hl : s.ptu.latched with
      | nil => simp [hl] at he
      | cons => rfl
    exact { h with
      latched_nodup := nodup
      firstOut_iff := by
        show s.ptu.firstOut.isSome = _
        rw [h.firstOut_iff, hne]
        exact congrArg (!·) (Bool.eq_false_iff.mpr he).symm
      age_empty := fun h0 => absurd (by simpa using h0) he }

theorem Ptu.tick_ordered {p : Ptu} (h : p.Ordered) (now : Nat) : (p.tick now).Ordered := by
  unfold Ptu.tick
  split
  next hc => exact { h with age_le := Nat.min_le_left _ _, age_empty := fun h0 => by simp_all }
  · exact h

theorem handle_ptu_ordered (x : Handoff) (s : State) (h : s.ptu.Ordered) : (handle x s).1.ptu.Ordered := by
  by_cases hr : x.reach.contains .ptu = false
  · rwa [(handle_within x s).ptu hr]
  rw [Bool.not_eq_false] at hr
  cases x with
  | ptuOnset x => exact Ptu.onset_ordered h x
  | ptuCondition x => exact Ptu.condition_ordered h x
  | ptuBreaker b =>
    show (Ptu.onBreaker b s).1.ptu.Ordered
    unfold Ptu.onBreaker
    split
    · exact { h with reverseRun_le := Nat.zero_le _ }
    · exact h
  | ptuSeq old new =>
    show (Ptu.onSeq old new s).1.ptu.Ordered
    unfold Ptu.onSeq
    simp only
    split
    · exact { h with reverseRun_le := Nat.zero_le _ }
    · exact h
  | _ => exact absurd hr Bool.false_ne_true

theorem setConsumers_ptu_ordered (r : ReadingSet) (lost going : Bool) :
    ∀ f ∈ setConsumers r lost going, ∀ t, t.ptu.Ordered → (f t).1.ptu.Ordered := by
  refine forall_setConsumers (fun t h => h) (fun t h => ?_) (fun t h => ?_) (fun t h => Ptu.onSet_ordered h r)
    (fun t h => ?_) (fun t h => ?_) (fun t h => ?_) (fun t h => ?_)
  · rwa [(Spv.onSet_within _ _ t).ptu rfl]
  · rwa [(Syc.onSet_within _ _ t).ptu rfl]
  · rwa [(Shc.onSet_only _ t).within.ptu rfl]
  · rwa [(Psm.onSet_only _ t).within.ptu rfl]
  · rwa [(Clu.onSet_within _ t).ptu rfl]
  · rwa [(Csq.onSet_only _ t).within.ptu rfl]

theorem lossConsumers_ptu_ordered : ∀ f ∈ lossConsumers, ∀ t, t.ptu.Ordered → (f t).1.ptu.Ordered :=
  forall_lossConsumers
    (fun _ h => { h with earthRun_le := Nat.zero_le _, overcurrentRun_le := Nat.zero_le _, reverseRun_le := Nat.zero_le _ })
    (fun _ h => h) (fun _ h => h) fun _ h => h

/-- Of the frames, an ACK-TRIP alone reaches the record. -/
theorem Tbc.frame_ptu_ordered (i : BitVec 11) (d : List Byte) {s : State} (h : s.ptu.Ordered) :
    (Tbc.frame i d s).1.ptu.Ordered := by
  cases hb : s.tbc.can.onBus with
  | false => rwa [Tbc.frame_of_offBus i d hb]
  | true =>
    rw [Tbc.frame_of_onBus i d hb]
    obtain ⟨-, e⟩ | ⟨-, e⟩ | ⟨kind, b, -, e⟩ := Tbc.act_cases i d s.heard <;> rw [e]
    · exact h
    · rwa [(Tbc.ownNumber_within _).ptu rfl]
    · by_cases hk : kind = .ackTrip
      · subst hk
        show (Tbc.forOwn d _ s.heard).1.ptu.Ordered
        unfold Tbc.forOwn
        split
        · exact Ptu.acknowledge_ordered (s := s.heard) h _
        · exact h
      · rw [Tbc.deal_ptu hk b d s.heard]; exact h

theorem Pnl.press_ack_ordered {s : State} (h : s.ptu.Ordered) :
    (Pnl.press .ack (Ptu.acknowledge Source.all) s).1.ptu.Ordered := by
  unfold Pnl.press
  simp only
  split
  · refine Ptu.acknowledge_ordered ?_ _
    exact h
  · exact h

theorem answer_ptu_ordered (c : Instr) {s : State} (h : s.ptu.Ordered) : (answer c s).1.ptu.Ordered := by
  by_cases hr : (commandReach c).contains .ptu = false
  · rwa [(answer_within c s).ptu hr]
  rw [Bool.not_eq_false] at hr
  cases c with
  | powerOn n => exact ⟨List.nodup_nil, rfl, Nat.zero_le _, fun _ => rfl, Nat.zero_le _, Nat.zero_le _, Nat.zero_le _⟩
  | resetAsserted =>
    exact ⟨h.latched_nodup, h.firstOut_iff, h.age_le, h.age_empty, Nat.zero_le _, Nat.zero_le _, Nat.zero_le _⟩
  | configLoadEnd d =>
    show (s.loadEnd d).1.ptu.Ordered
    unfold State.loadEnd
    split
    · split
      · exact { h with }
      · exact h
    · exact h
  | ackPress => exact Pnl.press_ack_ordered h
  | meteringDelivery bits =>
    exact Mtp.deliver_keeps (fun t => t.ptu.Ordered) handle_ptu_ordered h h (fun _ => h)
      fun going => setConsumers_ptu_ordered _ _ going
  | checkEvent =>
    exact Mtp.checkEvent_keeps (fun t => t.ptu.Ordered) handle_ptu_ordered h h lossConsumers_ptu_ordered
  | estopChange b =>
    show (Ptu.estop b s).1.ptu.Ordered
    unfold Ptu.estop
    simp only
    split
    · exact { h with }
    · exact h
  | status i d | bid i d | object i d | stepBid i d | stepFree i d | querySummary i d | queryPeer i d | ackTrip i d
  | clearAttention i d | forgetPeer i d => exact Tbc.frame_ptu_ordered i d h
  | queryTrip f | queryResult f => exact Tbc.frame_ptu_ordered f.ident f.data h
  | _ => exact absurd hr Bool.false_ne_true

theorem after_ptu_ordered (c : Instr) (s : State) (h : s.ptu.Ordered) : (after c s).ptu.Ordered :=
  after_keeps (fun t => t.ptu.Ordered) handle_ptu_ordered
    (fun _ _ ho k => by rwa [(due_within ho).ptu rfl]) (fun _ h => h) (answer_ptu_ordered c h)

theorem step_ptu_ordered {s t : State} (h : step s = .next t) : s.ptu.Ordered → t.ptu.Ordered := by
  refine step_keeps (fun t => t.ptu.Ordered) (fun _ _ h => h) after_ptu_ordered (fun s h => ?_) h
  show s.tick.ptu.Ordered
  unfold State.tick
  split
  · exact Ptu.tick_ordered h _
  · exact h

/-! ### The result log and the counts of the sequencer in order -/

theorem answer_csq_ordered (c : Instr) {s : State} (h : s.csq.Ordered) : (answer c s).1.csq.Ordered := by
  cases hm : reshapesSequencer c with
  | false => exact (answer_moves hm s).ordered h
  | true =>
    cases c with
    | powerOn => exact ⟨Nat.zero_le _, Nat.zero_le _, Nat.zero_le _, Nat.zero_le _, Nat.zero_le _⟩
    | resetAsserted => exact ⟨h.log_le, h.seq_le, Nat.zero_le _, Nat.zero_le _, Nat.zero_le _⟩
    | meteringDelivery bits =>
      exact Mtp.deliver_keeps (fun t => t.csq.Ordered) (fun x t => (handle_moves x t).ordered) h h (fun _ => h)
        fun going f hf t => (setConsumers_moves _ _ going f hf t).ordered
    | checkEvent =>
      exact Mtp.checkEvent_keeps (fun t => t.csq.Ordered) (fun x t => (handle_moves x t).ordered) h h
        fun f hf t => (lossConsumers_moves f hf t).ordered
    | connectPress =>
      show (Pnl.press .connect Csq.connect s).1.csq.Ordered
      unfold Pnl.press
      simp only
      split
      · obtain hm | hm := Csq.connect_moves (s.setPnl _)
        · exact hm.ordered h
        · exact hm.ordered ⟨h.log_le, h.seq_le, Nat.zero_le _, h.closeFail_le, h.unloadRun_le⟩
      · exact h
    | _ => exact absurd hm Bool.false_ne_true

theorem after_csq_ordered (c : Instr) (s : State) (h : s.csq.Ordered) : (after c s).csq.Ordered :=
  after_keeps (fun t => t.csq.Ordered) (fun x t => (handle_moves x t).ordered) (fun _ _ ho => (due_moves ho).ordered)
    (fun _ h => h) (answer_csq_ordered c h)

theorem step_csq_ordered {s t : State} (h : step s = .next t) : s.csq.Ordered → t.csq.Ordered := by
  refine step_keeps (fun t => t.csq.Ordered) (fun _ _ h => h) after_csq_ordered (fun s h => ?_) h
  show s.tick.csq.Ordered
  unfold State.tick
  split
  · exact Csq.Ordered.of_counts h rfl
  · exact h

end Sys2Proof.Machine

namespace Sys2Proof.Machine

/-! ### Bytes and the energy of a set -/

theorem beNat_lt (l : List Byte) : beNat l < 256 ^ l.length := by
  induction l using List.reverseRecOn with
  | nil => simp [beNat]
  | append_singleton l b ih =>
    rw [beNat_append_one, List.length_append, List.length_singleton, Nat.pow_succ]
    have := b.isLt
    omega

/-- R183: a field of `w` bytes is below `256 ^ w`. -/
theorem fieldNat_lt (d : List Byte) (start w : Nat) : fieldNat d start w < 256 ^ w :=
  Nat.lt_of_lt_of_le (beNat_lt _) (Nat.pow_le_pow_right (by decide) (by simp))

/-- The active power of a set is a number of 16 bits. -/
theorem readingSetOf_p_le (d : List Byte) : (readingSetOf d).p ≤ 32767 := by
  have h := fieldNat_lt d 32 2
  show signed16 (fieldNat d 32 2) ≤ 32767
  unfold signed16
  split <;> omega

/-! ### The counts of five blocks in order -/

theorem State.CountsOrdered.of_within {bs : List Block} {s t : State} (h : s.CountsOrdered) (w : Within bs s t)
    (hmtp : bs.contains .mtp = false) (hspv : bs.contains .spv = false) (hsyc : bs.contains .syc = false)
    (hclu : bs.contains .clu = false) (hshc : bs.contains .shc = false) : t.CountsOrdered := by
  obtain ⟨h1, h2, h3, h4, h5, h6, h7, h8, h9, h10, h11, h12, h13⟩ := h
  constructor <;> simpa only [w.mtp hmtp, w.spv hspv, w.syc hsyc, w.clu hclu, w.shc hshc]

/-- The counts of the claim unit. -/
def Clu.counts (c : Clu) : Nat × Nat × List Nat := (c.lowRun, c.nextSerial, c.draws)

/-- The counts of the claim unit are within their ranges. -/
def Clu.InRange (c : Clu) : Prop := c.lowRun ≤ 5 ∧ c.nextSerial ≤ 255 ∧ c.draws.length ≤ 50

theorem Clu.InRange.of_counts {c d : Clu} (h : c.InRange) (e : d.counts = c.counts) : d.InRange := by
  simp only [Clu.counts, Prod.mk.injEq] at e
  obtain ⟨h1, h2, h3⟩ := e
  unfold Clu.InRange
  rwa [h1, h2, h3]

theorem State.CountsOrdered.clu_inRange {s : State} (h : s.CountsOrdered) : s.clu.InRange :=
  ⟨h.lowRun_le, h.serial_le, h.draws_le⟩

/-- An answer of the claim unit, or of the claim unit and the bus controller. -/
theorem State.CountsOrdered.of_clu {s t : State} (h : s.CountsOrdered) (w : Within [.tbc, .clu] s t)
    (hc : t.clu.InRange) : t.CountsOrdered := by
  obtain ⟨h1, h2, h3, h4, h5, h6, -, -, -, h10, h11, h12, h13⟩ := h
  obtain ⟨k1, k2, k3⟩ := hc
  constructor <;> simpa only [w.mtp rfl, w.spv rfl, w.syc rfl, w.shc rfl]

theorem Within.clu_tbc {s t : State} (w : Within [.clu] s t) : Within [.tbc, .clu] s t := w.mono (by simp)

/-! #### The claim unit -/

section ClaimUnit

variable {s : State}

theorem Clu.endBid_counts (f : OwnKind → Bool) (c : Clu) : (c.endBid f).1.counts = c.counts := by
  unfold Clu.endBid
  (repeat' split) <;> rfl

theorem Clu.openWindow_counts (n : Nat) (b : Bool) (c : Clu) : (c.openWindow n b).counts = c.counts := by
  unfold Clu.openWindow
  (repeat' split) <;> rfl

theorem Clu.committed_counts (k : OwnKind) (n : Nat) (c : Clu) : (c.committed k n).counts = c.counts := by
  unfold Clu.committed
  simp only
  split <;> rfl

theorem Clu.takeWish_counts (k : OwnKind) (c : Clu) : (c.takeWish k).counts = c.counts := by
  unfold Clu.takeWish
  split <;> rfl

theorem Clu.refreshFloor_counts (n : Nat) (c : Clu) : (c.refreshFloor n).counts = c.counts := by
  unfold Clu.refreshFloor
  split <;> rfl

theorem Clu.lowered_counts (c : Clu) : c.lowered.counts = c.counts := by
  unfold Clu.lowered
  split <;> rfl

theorem Clu.lower_inRange (k n : Nat) {c : Clu} (h : c.InRange) : (c.lower k n).InRange := by
  unfold Clu.lower
  split
  · exact ⟨Nat.zero_le _, h.2⟩
  · split
    · exact ⟨Nat.zero_le _, h.2⟩
    · exact h

theorem serialAfter_le {n : Nat} (h : n ≤ 255) : serialAfter n ≤ 255 := by
  unfold serialAfter; split <;> omega

theorem Clu.makeBid_inRange (k : OwnKind) (n : Nat) (h : s.clu.InRange) : (Clu.makeBid k n s).1.clu.InRange := by
  have hw : (s.clu.takeWish k).InRange := h.of_counts (Clu.takeWish_counts k _)
  unfold Clu.makeBid
  simp only
  split
  · exact hw.of_counts (Clu.committed_counts k n _)
  · exact ⟨hw.1, serialAfter_le hw.2.1, hw.2.2⟩

theorem Clu.attempt_inRange (h : s.clu.InRange) : (Clu.attempt s).1.clu.InRange := by
  have hr : (s.setClu (s.clu.refreshFloor s.shc.fr)).clu.InRange := h.of_counts (Clu.refreshFloor_counts _ _)
  unfold Clu.attempt
  rw [Out.andThen_fst]
  split
  · exact hr
  split
  · split
    · exact Clu.makeBid_inRange _ _ hr
    · exact hr
  · exact hr

theorem Clu.decide_inRange (d : Decision) (h : s.clu.InRange) : (Clu.decide d s).1.clu.InRange := by
  unfold Clu.decide
  split
  · exact h
  · exact h
  · split <;> exact h
  · split
    · exact h
    · exact Clu.lower_inRange _ _ (c := { s.clu with chargeWish := none }) h

theorem Clu.withdrawFloor_inRange (h : s.clu.InRange) : (Clu.withdrawFloor s).1.clu.InRange :=
  h.of_counts (Clu.endBid_counts (fun k => k == .claim .floor) s.clu)

theorem Clu.withdrawStep_inRange (h : s.clu.InRange) : (Clu.withdrawStep s).1.clu.InRange :=
  h.of_counts (Clu.endBid_counts (fun k => k == .step) s.clu)

theorem Clu.abandon_inRange (h : s.clu.InRange) : (Clu.abandon s).1.clu.InRange :=
  h.of_counts (Clu.endBid_counts _ s.clu)

theorem Clu.freeStep_inRange (h : s.clu.InRange) : (Clu.freeStep s).1.clu.InRange := by
  unfold Clu.freeStep
  split <;> exact h

theorem Clu.release_inRange (h : s.clu.InRange) : (Clu.release s).1.clu.InRange := by
  unfold Clu.release
  split
  · exact h
  · exact ⟨Nat.zero_le _, (h.of_counts (Clu.endBid_counts OwnKind.isClaim s.clu)).2⟩

theorem Clu.onCompleted_inRange (b : TxBody) (h : s.clu.InRange) : (Clu.onCompleted b s).1.clu.InRange := by
  unfold Clu.onCompleted
  split
  · exact h.of_counts (Clu.openWindow_counts _ _ _)
  · exact h.of_counts (Clu.openWindow_counts _ _ _)
  · exact h
  · exact h
  · exact h
  · exact h

theorem Clu.onObject_inRange (b n : Nat) (h : s.clu.InRange) : (Clu.onObject b n s).1.clu.InRange := by
  unfold Clu.onObject
  (repeat' split) <;> exact h

theorem State.withEntry_inRange (b : Nat) (h : s.clu.InRange) : (s.withEntry b).clu.InRange := by
  unfold State.withEntry
  split <;> exact h

theorem State.recordHold_inRange (b : Nat) (h : s.clu.InRange) : (s.recordHold b).clu.InRange := by
  unfold State.recordHold
  split <;> exact h

theorem Clu.onBid_inRange (b n k : Nat) (kind : BidKind) (h : s.clu.InRange) :
    (Clu.onBid b n k kind s).1.clu.InRange := State.withEntry_inRange b h

theorem Clu.onStatus_inRange (b : Nat) (h : s.clu.InRange) : (Clu.onStatus b s).1.clu.InRange := by
  unfold Clu.onStatus
  split <;> exact h

theorem Tbc.onStatus_inRange (d : List Byte) (b : Nat) (h : s.clu.InRange) : (Tbc.onStatus d b s).1.clu.InRange :=
  Clu.onStatus_inRange b (s := s.fileStatus b d) (State.withEntry_inRange b h)

theorem Clu.onStepFree_inRange (b : Nat) (h : s.clu.InRange) : (Clu.onStepFree b s).1.clu.InRange := by
  unfold Clu.onStepFree
  (repeat' split) <;> exact h

theorem Clu.holdExpired_inRange (b : Nat) (h : s.clu.InRange) : (Clu.holdExpired b s).1.clu.InRange := by
  unfold Clu.holdExpired
  split <;> exact h

theorem Clu.stepWindowEnd_inRange (b : Nat) (h : s.clu.InRange) : (Clu.stepWindowEnd b s).1.clu.InRange := by
  unfold Clu.stepWindowEnd
  split
  · exact h
  · simp only
    split
    · exact h
    · exact State.recordHold_inRange b (s := s.dropStepBid b) h

theorem Clu.windowExpired_inRange (h : s.clu.InRange) : (Clu.windowExpired s).1.clu.InRange := by
  unfold Clu.windowExpired
  split
  · split
    · exact h.of_counts (Clu.committed_counts _ _ _)
    · exact h
  · exact h

theorem Clu.graceExpired_inRange (h : s.clu.InRange) : (Clu.graceExpired s).1.clu.InRange := by
  unfold Clu.graceExpired
  split
  · exact h.of_counts (Clu.lowered_counts s.clu)
  · exact h

theorem pushDraw_length_le {l : List Nat} (h : l.length ≤ 50) (x : Nat) : (pushDraw l x).length ≤ 50 := by
  unfold pushDraw
  split <;> simp <;> omega

theorem Clu.onSet_inRange (r : ReadingSet) (h : s.clu.InRange) : (Clu.onSet r s).1.clu.InRange := by
  have hd : ({ s.clu with draws := pushDraw s.clu.draws r.s } : Clu).InRange := ⟨h.1, h.2.1, pushDraw_length_le h.2.2 _⟩
  unfold Clu.onSet
  simp only
  split
  · exact hd
  · split
    · have hl : ({ s.clu with draws := pushDraw s.clu.draws r.s, lowRun := min 5 (s.clu.lowRun + 1) } : Clu).InRange :=
        ⟨Nat.min_le_left _ _, hd.2⟩
      split
      · exact hl.of_counts (Clu.lowered_counts _)
      · exact hl
    · exact ⟨Nat.zero_le _, hd.2⟩

theorem Tbc.deal_clu_inRange (kind : BusKind) (b : Nat) (d : List Byte) (h : s.clu.InRange) :
    (Tbc.deal kind b d s).1.clu.InRange := by
  cases kind with
  | status => exact Tbc.onStatus_inRange d b h
  | bid => exact Clu.onBid_inRange b _ _ _ h
  | object => exact Clu.onObject_inRange _ _ h
  | stepBid => exact h
  | stepFree => exact Clu.onStepFree_inRange b h
  | query => rwa [show (Tbc.deal .query b d s).1.clu = s.clu from (Tbc.forOwn_within d (Tbc.onQuery_within d) s).clu rfl]
  | ackTrip =>
    rwa [show (Tbc.deal .ackTrip b d s).1.clu = s.clu from
      (Tbc.forOwn_within d (fun s => (Ptu.acknowledge_only _ s).within) s).clu rfl]
  | control =>
    rwa [show (Tbc.deal .control b d s).1.clu = s.clu from (Tbc.forOwn_within d (Tbc.onControl_within d) s).clu rfl]
  | reply => exact h

theorem Tbc.frame_clu_inRange (i : BitVec 11) (d : List Byte) (h : s.clu.InRange) :
    (Tbc.frame i d s).1.clu.InRange := by
  cases hb : s.tbc.can.onBus with
  | false => rwa [Tbc.frame_of_offBus i d hb]
  | true =>
    rw [Tbc.frame_of_onBus i d hb]
    obtain ⟨-, e⟩ | ⟨-, e⟩ | ⟨kind, b, -, e⟩ := Tbc.act_cases i d s.heard <;> rw [e]
    · exact h
    · rwa [(Tbc.ownNumber_within _).clu rfl]
    · exact Tbc.deal_clu_inRange kind b d (s := s.heard) h

end ClaimUnit

/-! #### The other blocks -/

theorem Syc.countNegative_counts (r : ReadingSet) (y : Syc) :
    (y.countNegative r).1.good = y.good ∧ (y.countNegative r).1.dead = y.dead ∧
      ((y.countNegative r).1.negative ≤ 25) := by
  unfold Syc.countNegative
  split
  · exact ⟨rfl, rfl, Nat.min_le_left _ _⟩
  · exact ⟨rfl, rfl, Nat.zero_le _⟩

theorem Syc.evaluate_counts (r : ReadingSet) (f : Figures) (y : Syc) :
    (y.evaluate r f).1.good ≤ 3 ∧ (y.evaluate r f).1.dead = y.dead := by
  unfold Syc.evaluate
  simp only
  split
  · exact ⟨Nat.min_le_left _ _, rfl⟩
  · exact ⟨Nat.zero_le _, rfl⟩

theorem Syc.countDead_counts (r : ReadingSet) (y : Syc) :
    (y.countDead r).1.good = y.good ∧ (y.countDead r).1.dead ≤ 25 ∧ (y.countDead r).1.negative = y.negative := by
  unfold Syc.countDead
  split
  · exact ⟨rfl, Nat.min_le_left _ _, rfl⟩
  · exact ⟨rfl, Nat.zero_le _, rfl⟩

theorem Syc.onSet_counts (r : ReadingSet) (lost : Bool) {s : State} (h : s.CountsOrdered) :
    (Syc.onSet r lost s).1.CountsOrdered := by
  unfold Syc.onSet
  split
  · exact h
  split
  · exact h
  · exact h
  · obtain ⟨hg, hd, hn⟩ := Syc.countNegative_counts r s.syc
    exact { h with good_le := hg ▸ h.good_le, dead_le := hd ▸ h.dead_le, negative_le := hn }
  · obtain ⟨hg, hd, hn⟩ := Syc.countNegative_counts r (s.syc.evaluate r s.figs).1
    obtain ⟨hg', hd'⟩ := Syc.evaluate_counts r s.figs s.syc
    exact { h with good_le := hg ▸ hg', dead_le := hd ▸ hd' ▸ h.dead_le, negative_le := hn }
  · obtain ⟨hg, hd, hn⟩ := Syc.countDead_counts r s.syc
    exact { h with good_le := hg ▸ h.good_le, dead_le := hd, negative_le := hn ▸ h.negative_le }

theorem Spv.recover_badRun (n : Nat) (g : Bool) (v : Spv) : (v.recover n g).badRun = v.badRun := by
  unfold Spv.recover
  (repeat' split) <;> rfl

theorem Spv.prove_badRun (n : Nat) (g : Bool) {v : Spv} (h : v.badRun < 5) : (v.prove n g).badRun < 5 := by
  unfold Spv.prove
  (repeat' split) <;> first | exact h | exact Nat.zero_lt_succ _

theorem Spv.test_badRun (b : Bool) (c : SeqState) (v : Spv) : (v.test b c).1.badRun < 5 := by
  unfold Spv.test
  split
  · exact Nat.zero_lt_succ _
  split
  · simp only
    split <;> exact Nat.zero_lt_succ _
  · show v.badRun + 1 < 5
    omega

theorem Spv.onSet_counts (r : ReadingSet) (lost : Bool) {s : State} (h : s.CountsOrdered) :
    (Spv.onSet r lost s).1.CountsOrdered := by
  have hv : (s.spv.recover s.figs.n (r.shoreGood s.figs.fn)).badRun < 5 := by
    rw [Spv.recover_badRun]; exact h.badRun_lt
  unfold Spv.onSet
  simp only
  split
  · exact h
  split
  · exact { h with badRun_lt := hv }
  split
  · exact { h with badRun_lt := Spv.test_badRun _ _ _ }
  · exact { h with badRun_lt := Spv.prove_badRun _ _ hv }

theorem Shc.onSet_counts {r : ReadingSet} (hp : r.p ≤ 32767) {s : State} (h : s.CountsOrdered) :
    (Shc.onSet r s).1.CountsOrdered := by
  unfold Shc.onSet
  split
  · have hs := h.subAcc_lt
    unfold Shc.addEnergy
    split
    · exact { h with energy_le := Nat.min_le_left _ _, subAcc_lt := by show s.shc.subAcc + r.p.toNat - 180000 < 180000; omega }
    · exact { h with subAcc_lt := by show s.shc.subAcc + r.p.toNat < 180000; omega }
  · exact h

theorem requiredRate_le (e t : Option Nat) : requiredRate e t ≤ 65535 := by
  unfold requiredRate
  split <;> omega

theorem Shc.runPass_counts {s : State} (h : s.CountsOrdered) : (Shc.runPass s).1.CountsOrdered := by
  unfold Shc.runPass
  split
  · exact { h with u_le := requiredRate_le _ _, uq_le := Nat.min_le_left _ _ }
  · exact h

theorem Shc.onSeq_counts (old new : SeqState) {s : State} (h : s.CountsOrdered) :
    (Shc.onSeq old new s).1.CountsOrdered := by
  have h0 : (if new == .proving then s.setShc { s.shc with energy := 0, subAcc := 0 } else s).CountsOrdered := by
    split
    · exact { h with energy_le := Nat.zero_le _, subAcc_lt := Nat.zero_lt_succ _ }
    · exact h
  unfold Shc.onSeq
  simp only
  split
  · exact Shc.runPass_counts h0
  · exact { h0 with }

theorem handle_counts (x : Handoff) (s : State) (h : s.CountsOrdered) : (handle x s).1.CountsOrdered := by
  cases x with
  | spvSeq new =>
    show (Spv.onSeq new s).1.CountsOrdered
    unfold Spv.onSeq
    split
    · exact { h with badRun_lt := Nat.zero_lt_succ _ }
    · exact h
  | sycSeq new => exact { h with good_le := Nat.zero_le _, dead_le := Nat.zero_le _, negative_le := Nat.zero_le _ }
  | sycReady =>
    show (Syc.onReady s).1.CountsOrdered
    unfold Syc.onReady
    split
    · exact { h with good_le := Nat.zero_le _ }
    · exact { h with dead_le := Nat.zero_le _ }
    all_goals exact h
  | cluFloor => exact h.of_clu (Clu.put_within _ s).clu_tbc h.clu_inRange
  | cluWithdrawFloor => exact h.of_clu (handle_within .cluWithdrawFloor s).clu_tbc (Clu.withdrawFloor_inRange h.clu_inRange)
  | cluStep => exact { h with }
  | cluWithdrawStep => exact h.of_clu (handle_within .cluWithdrawStep s).clu_tbc (Clu.withdrawStep_inRange h.clu_inRange)
  | cluFreeStep => exact h.of_clu (Clu.freeStep_within s).clu_tbc (Clu.freeStep_inRange h.clu_inRange)
  | cluRelease => exact h.of_clu (Clu.release_within s).clu_tbc (Clu.release_inRange h.clu_inRange)
  | cluAttempt => exact h.of_clu (Clu.attempt_within s).clu_tbc (Clu.attempt_inRange h.clu_inRange)
  | cluDecision d => exact h.of_clu (Clu.decide_within d s).clu_tbc (Clu.decide_inRange d h.clu_inRange)
  | cluBusLost => exact h.of_clu (handle_within .cluBusLost s).clu_tbc (Clu.abandon_inRange h.clu_inRange)
  | cluDuplicate => exact h.of_clu (handle_within .cluDuplicate s).clu_tbc (Clu.abandon_inRange h.clu_inRange)
  | cluCompleted b => exact h.of_clu (handle_within (.cluCompleted b) s) (Clu.onCompleted_inRange b h.clu_inRange)
  | shcSeq old new => exact Shc.onSeq_counts old new h
  | shcFloor => exact { h with }
  | shcPass => exact Shc.runPass_counts h
  | _ => exact h.of_within (handle_within _ s) rfl rfl rfl rfl rfl

theorem setConsumers_counts {r : ReadingSet} (hp : r.p ≤ 32767) (lost going : Bool) :
    ∀ f ∈ setConsumers r lost going, ∀ t, t.CountsOrdered → (f t).1.CountsOrdered :=
  forall_setConsumers (fun t h => h.of_within (Psm.reevaluate_only t).within rfl rfl rfl rfl rfl)
    (fun _ h => Spv.onSet_counts r lost h) (fun _ h => Syc.onSet_counts r lost h)
    (fun t h => h.of_within (Ptu.onSet_only r t).within rfl rfl rfl rfl rfl)
    (fun _ h => Shc.onSet_counts hp h)
    (fun t h => h.of_within (Psm.onSet_only r t).within rfl rfl rfl rfl rfl)
    (fun t h => h.of_clu (Clu.onSet_within r t).clu_tbc (Clu.onSet_inRange r h.clu_inRange))
    fun t h => h.of_within (Csq.onSet_only r t).within rfl rfl rfl rfl rfl

theorem lossConsumers_counts : ∀ f ∈ lossConsumers, ∀ t, t.CountsOrdered → (f t).1.CountsOrdered :=
  forall_lossConsumers (fun _ h => { h with }) (fun _ h => { h with })
    (fun _ h => { h with badRun_lt := Nat.zero_lt_succ _ })
    fun _ h => { h with good_le := Nat.zero_le _, dead_le := Nat.zero_le _, negative_le := Nat.zero_le _ }

theorem Mtp.discard_counts {s : State} (h : s.CountsOrdered) : (s.setMtp s.mtp.discard).CountsOrdered := by
  unfold Mtp.discard
  split
  · exact { h with mtpRecovery_lt := Nat.zero_lt_succ _ }
  · exact h

theorem Mtp.accept_counts (r : ReadingSet) {s : State} (h : s.CountsOrdered) :
    (s.setMtp (s.mtp.accept r)).CountsOrdered := by
  unfold Mtp.accept
  simp only
  split
  · split
    · exact { h with miss_le := Nat.zero_le _, mtpRecovery_lt := Nat.zero_lt_succ _ }
    · exact { h with mtpRecovery_lt := by show s.mtp.recovery + 1 < 50; omega }
  · exact { h with }

theorem Mtp.checked_counts {s : State} (h : s.CountsOrdered) : (s.setMtp s.mtp.checked).CountsOrdered := by
  unfold Mtp.checked
  simp only
  split
  · exact { h with }
  split
  · exact { h with miss_le := Nat.zero_le _ }
  split
  · exact { h with miss_le := Nat.le_refl _, mtpRecovery_lt := Nat.zero_lt_succ _ }
  split
  · exact { h with miss_le := Nat.le_succ _ }
  · exact { h with miss_le := Nat.le_refl _, mtpRecovery_lt := Nat.zero_lt_succ _ }

theorem Tbc.frame_counts (i : BitVec 11) (d : List Byte) {s : State} (h : s.CountsOrdered) :
    (Tbc.frame i d s).1.CountsOrdered := by
  have w := Tbc.frame_within i d s
  obtain ⟨lowRun, serial, draws⟩ := Tbc.frame_clu_inRange i d h.clu_inRange
  exact ⟨w.mtp rfl ▸ h.miss_le, w.mtp rfl ▸ h.mtpRecovery_lt, w.spv rfl ▸ h.badRun_lt, w.syc rfl ▸ h.good_le,
    w.syc rfl ▸ h.dead_le, w.syc rfl ▸ h.negative_le, lowRun, serial, draws, w.shc rfl ▸ h.uq_le, w.shc rfl ▸ h.u_le,
    w.shc rfl ▸ h.energy_le, w.shc rfl ▸ h.subAcc_lt⟩

theorem answer_counts (c : Instr) {s : State} (h : s.CountsOrdered) : (answer c s).1.CountsOrdered := by
  have clu {u : State} (w : Within (commandReach c) s u) (hc : u.clu.InRange)
      (hs : commandReach c ⊆ [.tbc, .clu]) : u.CountsOrdered := h.of_clu (w.mono hs) hc
  have k := h.clu_inRange
  cases c with
  | powerOn n => constructor <;> exact Nat.le_of_ble_eq_true rfl
  | resetAsserted => constructor <;> exact Nat.le_of_ble_eq_true rfl
  | configLoadEnd d =>
    show (s.loadEnd d).1.CountsOrdered
    unfold State.loadEnd
    split
    · split
      · exact { h with
          miss_le := Nat.zero_le _, mtpRecovery_lt := Nat.zero_lt_succ _, uq_le := Nat.zero_le _, u_le := Nat.zero_le _
          energy_le := Nat.zero_le _, subAcc_lt := Nat.zero_lt_succ _ }
      · exact { h with }
    · exact h
  | censusTimerExpiry =>
    have hc : ((s.setCfl { s.cfl with census := none }).setMtp { s.mtp with armed := true }).CountsOrdered := { h with }
    show s.censusEnd.1.CountsOrdered
    unfold State.censusEnd
    simp only
    split
    · split
      · exact hc.of_within (Csq.firstState_only _).within rfl rfl rfl rfl rfl
      · exact hc
    · exact h
  | meteringDelivery bits =>
    exact Mtp.deliver_keeps State.CountsOrdered handle_counts h (Mtp.discard_counts h) (fun _ => Mtp.accept_counts _ h)
      fun going => setConsumers_counts (readingSetOf_p_le _) _ going
  | checkEvent =>
    exact Mtp.checkEvent_keeps State.CountsOrdered handle_counts h (Mtp.checked_counts h) lossConsumers_counts
  | status i d | bid i d | object i d | stepBid i d | stepFree i d | querySummary i d | queryPeer i d | ackTrip i d
  | clearAttention i d | forgetPeer i d =>
    exact Tbc.frame_counts i d h
  | queryTrip f | queryResult f => exact Tbc.frame_counts f.ident f.data h
  | peerStepBidWindowEnd b => exact clu (answer_within _ s) (Clu.stepWindowEnd_inRange b k) (List.Subset.refl _)
  | peerStepHoldExpiry b => exact clu (answer_within _ s) (Clu.holdExpired_inRange b k) (List.Subset.refl _)
  | ownWindowExpiry => exact clu (answer_within _ s) (Clu.windowExpired_inRange k) (by simp [commandReach])
  | backoffExpiry =>
    refine clu (answer_within _ s) ?_ (by simp [commandReach])
    show (Clu.backoffExpired s).1.clu.InRange
    unfold Clu.backoffExpired
    split <;> exact k
  | graceTimerExpiry => exact clu (answer_within _ s) (Clu.graceExpired_inRange k) (by simp [commandReach])
  | topupTimerExpiry => exact { h with }
  | budgetWaitOnset =>
    refine clu (answer_within _ s) ?_ (by simp [commandReach])
    show (Clu.budgetWaits s).1.clu.InRange
    unfold Clu.budgetWaits
    split <;> exact k
  | passTimerExpiry =>
    show (Shc.passExpired s).1.CountsOrdered
    unfold Shc.passExpired
    split
    · exact Shc.runPass_counts (s := s.setShc { s.shc with pass := some 1000 }) { h with }
    · exact h
  | _ => exact h.of_within (answer_within _ s) rfl rfl rfl rfl rfl

theorem after_counts (c : Instr) (s : State) (h : s.CountsOrdered) : (after c s).CountsOrdered :=
  after_keeps State.CountsOrdered handle_counts
    (fun _ _ ho h => h.of_within (due_within ho) rfl rfl rfl rfl rfl) (fun _ h => { h with }) (answer_counts c h)

theorem step_counts {s t : State} (h : step s = .next t) : s.CountsOrdered → t.CountsOrdered := by
  refine step_keeps State.CountsOrdered (fun _ _ h => { h with }) after_counts (fun s h => ?_) h
  show s.tick.refresh.CountsOrdered
  unfold State.tick
  split
  · exact { h with }
  · exact { h with }

/-! ### The proof in order -/

theorem State.ProofOrdered.of_eq {s t : State} (h : s.ProofOrdered) (hv : t.spv = s.spv) (hc : t.cfl = s.cfl) :
    t.ProofOrdered := by
  unfold State.ProofOrdered State.running State.figs at *
  rwa [hv, hc]

/-- Nothing counted and nothing proven. -/
theorem State.ProofOrdered.of_unproven {s : State} (hs : s.spv.stability = 0) (hp : s.spv.proven = false) :
    s.ProofOrdered :=
  ⟨by rw [hs]; exact Nat.zero_le _, fun h => absurd h (by simp [hp]), fun _ => ⟨hs, hp⟩⟩

theorem handle_proof (x : Handoff) (s : State) (h : s.ProofOrdered) : (handle x s).1.ProofOrdered := by
  have w := handle_within x s
  have hcfl : (handle x s).1.cfl = s.cfl := (handle_kept x s).cfl
  by_cases hr : x.reach.contains .spv = false
  · exact h.of_eq (w.spv hr) hcfl
  rw [Bool.not_eq_false] at hr
  cases x with
  | spvSeq new =>
    show (Spv.onSeq new s).1.ProofOrdered
    unfold Spv.onSeq
    split
    · exact .of_unproven rfl rfl
    · exact h
  | _ => exact absurd hr Bool.false_ne_true

theorem Spv.recover_proof (n : Nat) (g : Bool) (v : Spv) :
    (v.recover n g).stability = v.stability ∧ (v.recover n g).proven = v.proven := by
  unfold Spv.recover
  (repeat' split) <;> exact ⟨rfl, rfl⟩

/-- R28 to R31: in a running part a set keeps the proof in order. -/
theorem Spv.onSet_proof (r : ReadingSet) (lost : Bool) {s : State} (hr : s.running = true) (h : s.ProofOrdered) :
    (Spv.onSet r lost s).1.ProofOrdered := by
  have running {v : Spv} (hv : v.stability ≤ s.figs.n ∧ (v.proven = true → v.stability = s.figs.n)) :
      (s.setSpv v).ProofOrdered := ⟨hv.1, hv.2, fun h0 => absurd (hr.symm.trans h0) Bool.true_eq_false_eq_False⟩
  obtain ⟨hs, hp⟩ := Spv.recover_proof s.figs.n (r.shoreGood s.figs.fn) s.spv
  have hv := And.intro (hs ▸ h.1) fun k => hs.trans (h.2.1 (hp ▸ k))
  unfold Spv.onSet
  simp only
  split
  · exact h
  split
  · exact running hv
  split
  · unfold Spv.test
    split
    · exact running hv
    split
    · simp only
      split <;> exact .of_unproven rfl rfl
    · exact running hv
  next hprov =>
    unfold Spv.prove
    split
    · exact running ⟨Nat.zero_le _, fun k => absurd k hprov⟩
    split
    · exact running ⟨Nat.le_refl _, fun _ => rfl⟩
    · exact running ⟨by show _ + 1 ≤ _; omega, fun k => absurd k hprov⟩

/-- The proof in order, in a running part. -/
def State.ProofRunning (s : State) : Prop := s.running = true ∧ s.ProofOrdered

theorem State.ProofRunning.of_within {bs : List Block} {s t : State} (h : s.ProofRunning) (w : Within bs s t)
    (hc : bs.contains .cfl = false) (hs : bs.contains .spv = false) : t.ProofRunning :=
  ⟨by rw [State.running, w.cfl hc]; exact h.1, h.2.of_eq (w.spv hs) (w.cfl hc)⟩

theorem handle_proofRunning (x : Handoff) (s : State) (h : s.ProofRunning) : (handle x s).1.ProofRunning :=
  ⟨by rw [State.running, (handle_kept x s).cfl]; exact h.1, handle_proof x s h.2⟩

theorem setConsumers_proofRunning (r : ReadingSet) (lost going : Bool) :
    ∀ f ∈ setConsumers r lost going, ∀ t, t.ProofRunning → (f t).1.ProofRunning :=
  forall_setConsumers (fun t h => h.of_within (Psm.reevaluate_only t).within rfl rfl)
    (fun t h => ⟨by rw [State.running, (Spv.onSet_within r lost t).cfl rfl]; exact h.1, Spv.onSet_proof r lost h.1 h.2⟩)
    (fun t h => h.of_within (Syc.onSet_within r lost t) rfl rfl)
    (fun t h => h.of_within (Ptu.onSet_only r t).within rfl rfl)
    (fun t h => h.of_within (Shc.onSet_only r t).within rfl rfl)
    (fun t h => h.of_within (Psm.onSet_only r t).within rfl rfl)
    (fun t h => h.of_within (Clu.onSet_within r t) rfl rfl)
    fun t h => h.of_within (Csq.onSet_only r t).within rfl rfl

theorem lossConsumers_proof : ∀ f ∈ lossConsumers, ∀ t, t.ProofOrdered → (f t).1.ProofOrdered :=
  forall_lossConsumers (fun _ h => h) (fun _ h => h) (fun _ _ => .of_unproven rfl rfl) fun _ h => h

theorem answer_proof (c : Instr) {s : State} (h : s.ProofOrdered) : (answer c s).1.ProofOrdered := by
  by_cases hr : (commandReach c).contains .spv = false ∧ (commandReach c).contains .cfl = false
  · exact h.of_eq ((answer_within c s).spv hr.1) ((answer_within c s).cfl hr.2)
  cases c with
  | powerOn | resetAsserted => exact .of_unproven rfl rfl
  | resetReleased n =>
    show (s.released n).ProofOrdered
    unfold State.released
    split
    next hs =>
      obtain ⟨h1, h2⟩ := h.2.2 (by rw [State.running, eq_of_beq hs]; rfl)
      exact .of_unproven h1 h2
    · exact h
  | configLoadEnd d =>
    show (s.loadEnd d).1.ProofOrdered
    unfold State.loadEnd
    split
    next hs =>
      obtain ⟨h1, h2⟩ := h.2.2 (by rw [State.running, eq_of_beq hs]; rfl)
      split <;> exact .of_unproven h1 h2
    · exact h
  | censusTimerExpiry =>
    have hc : ((s.setCfl { s.cfl with census := none }).setMtp { s.mtp with armed := true }).ProofOrdered := h
    show s.censusEnd.1.ProofOrdered
    unfold State.censusEnd
    simp only
    split
    · split
      · exact hc.of_eq ((Csq.firstState_only _).within.spv rfl) ((Csq.firstState_only _).within.cfl rfl)
      · exact hc
    · exact h
  | meteringDelivery bits =>
    cases hrun : s.running with
    | false =>
      show (Mtp.deliver bits s).ProofOrdered
      unfold Mtp.deliver
      rw [if_pos (by simp [hrun])]
      exact h
    | true =>
      exact (Mtp.deliver_keeps State.ProofRunning handle_proofRunning ⟨hrun, h⟩ ⟨hrun, h⟩ (fun _ => ⟨hrun, h⟩)
        fun going => setConsumers_proofRunning _ _ going).2
  | checkEvent => exact Mtp.checkEvent_keeps State.ProofOrdered handle_proof h h lossConsumers_proof
  | _ => exact absurd ⟨rfl, rfl⟩ hr

theorem after_proof (c : Instr) (s : State) (h : s.ProofOrdered) : (after c s).ProofOrdered :=
  after_keeps State.ProofOrdered handle_proof
    (fun _ _ ho h => h.of_eq ((due_within ho).spv rfl) ((due_within ho).cfl rfl)) (fun _ h => h) (answer_proof c h)

theorem step_proof {s t : State} (h : step s = .next t) : s.ProofOrdered → t.ProofOrdered := by
  refine step_keeps State.ProofOrdered (fun _ _ h => h) after_proof (fun s h => ?_) h
  show s.tick.refresh.ProofOrdered
  unfold State.tick
  split <;> exact h

/-- Settles O56: each of the four is kept by every hand-off, every due move, every command's own block and every
millisecond. -/
theorem recordsAndCountsStayInOrder : Obligations.RecordsAndCountsStayInOrder :=
  fun _ _ h => ⟨step_ptu_ordered h, step_csq_ordered h, step_counts h, step_proof h⟩

end Sys2Proof.Machine

/-!
# HOLD, CLOSE and the switch outputs

HOLD stands while its conditions hold because a block that changes what they read tells the breaker drive, which re-tests
them (R70). Between the change and the re-test the hand-off that makes it is waiting: that is the invariant of a cascade.
-/

namespace Sys2Proof.Machine

/-! ### Changes of the hold conditions are told -/

/-- The hand-offs at which the breaker drive re-tests its hold conditions or opens. -/
def Handoff.retests : Handoff → Bool
  | .bkdRetest | .bkdOpen | .bkdTrip | .bkdSeq _ _ => true
  | _ => false

/-- One of the hand-offs that wait re-tests the hold conditions. -/
def retestWaits (l : List Handoff) : Prop := ∃ x ∈ l, x.retests = true

theorem retestWaits.mono {l m : List Handoff} (h : retestWaits l) (hs : l ⊆ m) : retestWaits m :=
  h.imp fun _ ⟨hx, hr⟩ => ⟨hs hx, hr⟩

/-- What the hold conditions read (R70). -/
def State.holdInputs (s : State) : Bool × EswState × List Source × SeqState :=
  (s.setHeld, s.esd.state, s.ptu.latched, s.csq.state)

theorem State.holdConditions_congr {s t : State} (h : t.holdInputs = s.holdInputs) :
    t.holdConditions = s.holdConditions := by
  simp only [State.holdInputs, Prod.mk.injEq] at h
  obtain ⟨h1, h2, h3, h4⟩ := h
  simp only [State.holdConditions, h1, h2, h3, h4]

/-- An answer that changes what the hold conditions read has a re-test among its hand-offs. -/
def Told (s : State) (o : Out) : Prop := o.1.holdInputs = s.holdInputs ∨ retestWaits o.2

theorem Told.same (s : State) (l : List Handoff) : Told s (s, l) := .inl rfl

theorem Told.of_inputs_eq {s t : State} {o : Out} (h : Told t o) (e : t.holdInputs = s.holdInputs) : Told s o :=
  h.imp (·.trans e) id

theorem Within.setHeld_eq {bs : List Block} {s t : State} (w : Within bs s t) (hp : bs.contains .psm = false)
    (hc : bs.contains .cfl = false) : t.setHeld = s.setHeld := by
  simp only [State.setHeld, State.figs, w.psm hp, w.cfl hc]

theorem Told.of_within {bs : List Block} {s : State} {o : Out} (w : Within bs s o.1) (hp : bs.contains .psm = false)
    (hc : bs.contains .cfl = false) (he : bs.contains .esd = false) (ht : bs.contains .ptu = false)
    (hq : bs.contains .csq = false) : Told s o :=
  .inl (by simp only [State.holdInputs, w.setHeld_eq hp hc, w.esd he, w.ptu ht, w.csq hq])

/-- R34: an answer of the sequencer hands a change of its state on. -/
theorem Csq.Moves.told {bs : List Block} {s : State} {o : Out} (h : Csq.Moves s o) (w : Within bs s o.1)
    (hp : bs.contains .psm = false) (hc : bs.contains .cfl = false) (he : bs.contains .esd = false)
    (ht : bs.contains .ptu = false) : Told s o := by
  obtain hs | ⟨old, new, hb⟩ := h.handed
  · exact .inl (by simp only [State.holdInputs, w.setHeld_eq hp hc, w.esd he, w.ptu ht, hs])
  · exact .inr ⟨_, hb, rfl⟩

/-! #### Plug set monitor -/

theorem Psm.take_told (p : Psm) (r : List Handoff) (s : State) : Told s (Psm.take p r s) := by
  by_cases h : (Psm.take p r s).1.setHeld = s.setHeld
  · exact .inl (by simp only [State.holdInputs, h]; rfl)
  · refine .inr ⟨.bkdRetest, ?_, rfl⟩
    have h' : ((Psm.take p r s).1.setHeld != s.setHeld) = true := by simpa using h
    refine List.mem_append_left _ (List.mem_append_right _ ?_)
    show Handoff.bkdRetest ∈ if ((Psm.take p r s).1.setHeld != s.setHeld) = true then [.bkdRetest] else []
    rw [if_pos h']
    exact List.mem_singleton_self _

theorem Psm.loss_told (p : Psm) (s : State) : Told s (Psm.loss p s) := by
  unfold Psm.loss
  split <;> exact Psm.take_told _ _ s

/-- A change of one plug that keeps a property of it keeps the property of the set. -/
theorem Four.allIn_set {α : Type} (np : Nat) (g : α → Bool) (f : Four α) (i : PlugNo) (a : α)
    (h : g a = g (f.get i)) : (f.set i a).allIn np g = f.allIn np g := by
  cases i <;> simp_all [Four.allIn, Four.set, Four.get]

/-- A change of one plug that keeps its confirmation keeps set-held. -/
theorem State.setHeld_setPlug (s : State) (i : PlugNo) (q : Plug) (h : q.confirmed = (s.psm.plugs.get i).confirmed) :
    (s.setPsm { s.psm with plugs := s.psm.plugs.set i q }).setHeld = s.setHeld :=
  congrArg (s.psm.setState == .complete && ·) (Four.allIn_set _ (fun q => q.confirmed) s.psm.plugs i q h)

theorem Psm.pilotMade_told (i : PlugNo) (s : State) : Told s (Psm.pilotMade i s) := by
  unfold Psm.pilotMade
  simp only
  split
  · exact .inl (congrArg (·, s.esd.state, s.ptu.latched, s.csq.state) (State.setHeld_setPlug (s.setPins _) i _ rfl))
  · exact .inl rfl

theorem Psm.pilotOpened_told (i : PlugNo) (s : State) : Told s (Psm.pilotOpened i s) := by
  unfold Psm.pilotOpened
  simp only
  split
  · split
    · exact .inl rfl
    · exact (Psm.take_told _ _ _).of_inputs_eq rfl
    · exact (Psm.loss_told _ _).of_inputs_eq rfl
  · exact .inl rfl

theorem Psm.validated_told (i : PlugNo) (s : State) : Told s (Psm.validated i s) := by
  unfold Psm.validated
  simp only
  split
  · exact Psm.take_told _ _ s
  · exact .same _ _

theorem Psm.earthchk_told (b : Bool) (s : State) : Told s (Psm.earthchk b s) := by
  unfold Psm.earthchk
  simp only
  split
  · exact (Psm.take_told _ _ _).of_inputs_eq rfl
  · exact .inl rfl

theorem Psm.latchFeedback_told (i : PlugNo) (e : Bool) (s : State) : Told s (Psm.latchFeedback i e s) := by
  unfold Psm.latchFeedback
  simp only
  split
  · split
    · exact (Psm.loss_told _ _).of_inputs_eq rfl
    · split <;> exact (Psm.take_told _ _ _).of_inputs_eq rfl
  · exact .inl rfl

theorem Psm.engageRequest_told (s : State) : Told s (Psm.engageRequest s) := by
  unfold Psm.engageRequest
  simp only
  split
  · exact .inl rfl
  split
  · exact .inl rfl
  split <;> exact (Psm.take_told _ _ _).of_inputs_eq rfl

theorem Psm.engageExpired_told (s : State) : Told s (Psm.engageExpired s) := by
  unfold Psm.engageExpired
  split <;> exact .inl rfl

theorem Psm.deadExpired_told (s : State) : Told s (Psm.deadExpired s) := by
  unfold Psm.deadExpired
  split <;> exact .inl rfl

theorem Psm.releaseRequest_told (s : State) : Told s (Psm.releaseRequest s) := by
  unfold Psm.releaseRequest
  split
  · exact .same _ _
  split
  · exact Psm.take_told _ _ s
  · exact .inl rfl

theorem Psm.onSet_told (r : ReadingSet) (s : State) : Told s (Psm.onSet r s) := by
  unfold Psm.onSet
  simp only
  split
  · split <;> exact Psm.take_told _ _ s
  · exact Psm.take_told _ _ s

/-! #### Earthing switch drive -/

theorem Esd.take_told (e : Esd) (s : State) : Told s (Esd.take e s) := by
  by_cases h : e.state = s.esd.state
  · exact .inl (by simp only [State.holdInputs]; rw [show (Esd.take e s).1.esd.state = s.esd.state from h]; rfl)
  · refine .inr ⟨.bkdRetest, ?_, rfl⟩
    unfold Esd.take
    simp [h]

theorem Esd.enterFault_told (s : State) : Told s (Esd.enterFault s) := .inr ⟨.bkdRetest, by simp [Esd.enterFault], rfl⟩

theorem Esd.positions_told (c o : Bool) (s : State) : Told s (Esd.positions c o s) := by
  unfold Esd.positions
  simp only
  split
  · exact .inl rfl
  split
  all_goals first
    | exact .inl rfl
    | exact (Esd.enterFault_told _).of_inputs_eq rfl
    | (split <;> first | exact .inl rfl | exact (Esd.take_told _ _).of_inputs_eq rfl)

theorem Esd.closeRequest_told (s : State) : Told s (Esd.closeRequest s) := by
  unfold Esd.closeRequest
  split
  all_goals first
    | exact .inl rfl
    | exact Esd.take_told _ s
    | (split <;> first | exact .inl rfl | exact Esd.take_told _ s)

theorem Esd.openRequest_told (s : State) : Told s (Esd.openRequest s) := by
  unfold Esd.openRequest
  split
  all_goals first
    | exact .inl rfl
    | exact Esd.take_told _ s
    | (split <;> first | exact .inl rfl | exact Esd.take_told _ s)

theorem Esd.withdraw_told (s : State) : Told s (Esd.withdraw s) := by
  unfold Esd.withdraw
  split <;> exact .inl rfl

theorem Esd.travelExpired_told (s : State) : Told s (Esd.travelExpired s) := by
  unfold Esd.travelExpired
  split
  · exact Esd.enterFault_told s
  · exact .same _ _

theorem Esd.settled_told (s : State) : Told s (Esd.settled s) := by
  unfold Esd.settled
  split
  · split <;> first | exact .inl rfl | exact Esd.take_told _ s
  · exact .same _ _

theorem Esd.due_told {s : State} {o : Out} (h : Esd.due s = some o) : Told s o := by
  unfold Esd.due at h
  simp only at h
  split at h
  · cases h; exact Esd.take_told _ s
  split at h
  · cases h; exact Esd.take_told _ s
  split at h
  · cases h; exact .inl rfl
  · exact absurd h (by simp)

/-! #### Protection unit -/

theorem Ptu.onset_told (x : Source) (s : State) : Told s (Ptu.onset x s) := by
  unfold Ptu.onset
  split
  · exact .same _ _
  · exact .inr ⟨.bkdRetest, by simp, rfl⟩

theorem Ptu.acknowledge_told (l : List Source) (s : State) : Told s (Ptu.acknowledge l s) := by
  unfold Ptu.acknowledge
  split
  · exact .same _ _
  simp only
  split
  · exact .same _ _
  · exact .inr ⟨.bkdRetest, by simp, rfl⟩

theorem Ptu.condition_told (x : Source) (s : State) : Told s (Ptu.condition x s) := by
  unfold Ptu.condition
  split
  · exact .same _ _
  · exact Ptu.onset_told x s

/-- The items of the protection unit beside the latched set are not among what the hold conditions read. -/
theorem Told.of_latched {s : State} {p : Ptu} {l : List Handoff} (h : p.latched = s.ptu.latched) :
    Told s (s.setPtu p, l) :=
  .inl (by simp only [State.holdInputs, State.setPtu_ptu, h]; rfl)

/-! ### The invariant of a cascade -/

/-- R70, R71, R74, R80: what the breaker drive keeps by itself. -/
structure State.BreakerLocal (s : State) : Prop where
  hold_state : s.bkd.hold = true → s.bkd.state = .closing ∨ s.bkd.state = .closed
  close_slot : s.bkd.closePulse.isSome = true → s.bkd.slotHeld = true
  stopped : s.running = false → s.bkd.state = .opening ∧ s.bkd.hold = false ∧ s.bkd.closeSup = none ∧
    s.bkd.openSup = none ∧ s.bkd.contactWatch = none

/-- R70: while the hand-offs of `o` wait, HOLD stands on its conditions or on the re-test to come. -/
def HoldGuarded (o : Out) : Prop := o.1.bkd.hold = true → o.1.holdConditions = true ∨ retestWaits o.2

/-- The invariant of a cascade: the state of `o` with its hand-offs waiting. -/
def BreakerPending (o : Out) : Prop := o.1.BreakerLocal ∧ HoldGuarded o

theorem State.BreakerSafe.local {s : State} (h : s.BreakerSafe) : s.BreakerLocal :=
  ⟨h.hold_state, h.close_slot, h.stopped⟩

theorem State.BreakerLocal.safe {s : State} (h : s.BreakerLocal) (hc : s.bkd.hold = true → s.holdConditions = true) :
    s.BreakerSafe := ⟨h.hold_state, hc, h.close_slot, h.stopped⟩

theorem State.BreakerSafe.pending {s : State} (h : s.BreakerSafe) (l : List Handoff) : BreakerPending (s, l) :=
  ⟨h.local, fun hh => .inl (h.hold_conditions hh)⟩

theorem State.BreakerLocal.of_eq {s t : State} (h : s.BreakerLocal) (hb : t.bkd = s.bkd) (hc : t.cfl = s.cfl) :
    t.BreakerLocal := by
  obtain ⟨h1, h2, h3⟩ := h
  unfold State.running at h3
  constructor <;> simpa only [hb, hc, State.running]

/-- An answer that leaves the breaker drive alone and tells it what changes keeps the invariant. -/
theorem BreakerPending.of_told {s : State} {l m : List Handoff} {o : Out} (h : BreakerPending (s, l)) (t : Told s o)
    (hb : o.1.bkd = s.bkd) (hc : o.1.cfl = s.cfl) (ho : o.2 ⊆ m) (hl : retestWaits l → retestWaits m) :
    BreakerPending (o.1, m) := by
  refine ⟨h.1.of_eq hb hc, fun hh => ?_⟩
  obtain e | e := t
  · rw [hb] at hh
    exact (h.2 hh).imp (fun k => by rw [State.holdConditions_congr e]; exact k) hl
  · exact .inr (e.mono ho)

/-! #### Breaker drive -/

theorem Bkd.order_local {s : State} (h : s.BreakerLocal) : (s.setBkd s.bkd.order).BreakerLocal := by
  have running (b : Bkd) (hs : b.state ≠ .opening) (he : s.bkd = b) : s.running = false → False := fun hr => by
    obtain ⟨h1, -⟩ := h.stopped hr
    exact hs (he ▸ h1)
  obtain ⟨e, -⟩ | ⟨e, k⟩ | ⟨e, k, -⟩ := Bkd.order_cases s.bkd
  · rw [e]; exact h
  · rw [e]
    refine ⟨fun hh => absurd hh Bool.false_ne_true, h.close_slot, fun hr => (running _ ?_ rfl hr).elim⟩
    obtain k | ⟨k, -⟩ := k <;> simp [k]
  · rw [e]
    exact ⟨fun hh => absurd hh Bool.false_ne_true, h.close_slot, fun hr => (running _ (by simp [k]) rfl hr).elim⟩

/-- R70, R73: an order from a state that HOLD can stand in leaves it released. -/
theorem Bkd.order_safe {s : State} (h : s.BreakerLocal) (l : List Handoff) : BreakerPending ((Bkd.take s.bkd.order s).1,
    l) := by
  refine ⟨Bkd.order_local h, fun hh => ?_⟩
  cases hold : s.bkd.hold with
  | true =>
    have : s.bkd.order.hold = true := hh
    rw [Bkd.order_hold _ (h.hold_state hold)] at this
    exact absurd this Bool.false_ne_true
  | false =>
    have : s.bkd.order.hold = true := hh
    obtain ⟨e, -⟩ | ⟨e, -⟩ | ⟨e, -⟩ := Bkd.order_cases s.bkd
    · rw [e, hold] at this; exact absurd this Bool.false_ne_true
    · rw [e] at this; exact absurd this Bool.false_ne_true
    · rw [e] at this; exact absurd this Bool.false_ne_true

theorem Bkd.retest_safe {s : State} (h : s.BreakerLocal) : (Bkd.retest s).1.BreakerSafe := by
  obtain ⟨e, k⟩ | ⟨e, -⟩ := Bkd.retest_cases s
  · rw [e]; exact h.safe k
  · rw [e]
    obtain ⟨k1, k2⟩ := Bkd.order_safe h []
    refine k1.safe fun hh => (k2 hh).resolve_right ?_
    rintro ⟨x, hx, -⟩
    exact absurd hx List.not_mem_nil

theorem Bkd.unexpectedClose_pending {s : State} (h : s.BreakerLocal) (hh : s.bkd.hold = false)
    (hr : s.running = true) (l : List Handoff) : BreakerPending ((Bkd.unexpectedClose s).1, l) := by
  have hold : (Bkd.unexpectedClose s).1.bkd.hold = false := hh
  exact ⟨⟨fun k => absurd (hold.symm.trans k) Bool.false_ne_true, h.close_slot,
    fun k => absurd (hr.symm.trans k) Bool.true_eq_false_eq_False⟩, fun k =>
      absurd (hold.symm.trans k) Bool.false_ne_true⟩

theorem State.BreakerLocal.not_hold {s : State} (h : s.BreakerLocal) (h1 : s.bkd.state ≠ .closing)
    (h2 : s.bkd.state ≠ .closed) : s.bkd.hold = false := by
  by_contra k
  exact (h.hold_state (by simpa using k)).elim h1 h2

theorem State.BreakerLocal.running {s : State} (h : s.BreakerLocal) (h1 : s.bkd.state ≠ .opening) :
    s.running = true := by
  by_contra k
  exact h1 (h.stopped (by simpa using k)).1

theorem Bkd.onSeq_pending {s : State} (h : s.BreakerLocal) (old new : SeqState) (l : List Handoff) :
    BreakerPending ((Bkd.onSeq old new s).1, l) := by
  have up (b : Bool) : (s.setBkd { s.bkd with upstream := b }).BreakerLocal := ⟨h.hold_state, h.close_slot, h.stopped⟩
  unfold Bkd.onSeq
  split
  · simp only
    split
    next hf =>
      have hf : s.bkd.state = .failed := by simpa using hf
      exact Bkd.unexpectedClose_pending (up false) (h.not_hold (by simp [hf]) (by simp [hf])) (h.running (by simp [hf])) l
    · exact (Bkd.retest_safe (up _)).pending l
  split
  · exact (Bkd.retest_safe (up _)).pending l
  · exact (Bkd.retest_safe h).pending l

theorem Bkd.slot_local (held : Bool) {s : State} (h : s.BreakerLocal) : (Bkd.slot held s).1.BreakerLocal := by
  unfold Bkd.slot
  simp only
  split
  · refine ⟨h.hold_state, fun k => absurd k Bool.false_ne_true, fun hr => ?_⟩
    obtain ⟨h1, h2, h3, h4, h5⟩ := h.stopped hr
    exact ⟨h1, h2, h3, by simp [h4], h5⟩
  next hc =>
    refine ⟨h.hold_state, fun k => ?_, h.stopped⟩
    cases held with
    | true => rfl
    | false => exact absurd (by rw [show s.bkd.closePulse.isSome = true from k]; rfl) hc

/-- R71: what a close order can do: nothing but a note, or the close of a breaker that every condition allows. -/
theorem Bkd.closeOrder_cases (s : State) :
    (∃ b : Bool, (Bkd.closeOrder s).1 = s.setBkd { s.bkd with refusedClose := b } ∧ s.closeRefusal ≠ none ∧
      (Bkd.closeOrder s).2 = []) ∨
    (s.closeRefusal = none ∧
      (Bkd.closeOrder s).1 = s.setBkd
        { s.bkd with hold := true, closePulse := some 100, closeSup := some (s.figs.tClose + 100), state := .closing }) := by
  unfold Bkd.closeOrder
  split
  next h => exact .inl ⟨true, rfl, by simp [h], rfl⟩
  next h => exact .inl ⟨s.bkd.refusedClose, rfl, by simp [h], rfl⟩
  next h => exact .inr ⟨h, rfl⟩

/-- R71: the conditions of an accepted close order. -/
theorem State.closeRefusal_eq_none {s : State} :
    s.closeRefusal = none ↔ s.bkd.state = .opened ∧ s.ptu.latched = [] ∧ s.bkd.slotHeld = true ∧
      s.holdConditions = true ∧ s.bkd.antiPump = none := by
  unfold State.closeRefusal
  cases hs : s.bkd.state <;> cases hl : s.ptu.latched <;> cases hh : s.bkd.slotHeld <;> cases hc : s.holdConditions <;>
    cases ha : s.bkd.antiPump <;> simp

theorem Bkd.closeOrder_pending {s : State} {l : List Handoff} (h : BreakerPending (s, l)) :
    BreakerPending ((Bkd.closeOrder s).1, l) := by
  obtain ⟨b, e, -⟩ | ⟨hn, e⟩ := Bkd.closeOrder_cases s
  · rw [e]; exact ⟨⟨h.1.hold_state, h.1.close_slot, h.1.stopped⟩, h.2⟩
  · obtain ⟨hs, -, hslot, hcond, -⟩ := State.closeRefusal_eq_none.mp hn
    rw [e]
    exact ⟨⟨fun _ => .inl rfl, fun _ => hslot, fun hr =>
      absurd (h.1.running (by simp [hs])) (by rw [show s.running = false from hr]; simp)⟩, fun _ => .inl hcond⟩

/-! #### Hand-offs -/

theorem handle_told (x : Handoff) (s : State) (hx : x.reach.contains .bkd = false) : Told s (handle x s) := by
  have w := handle_within x s
  cases x with
  | psmEngage => exact Psm.engageRequest_told s
  | psmRelease => exact Psm.releaseRequest_told s
  | psmAwaitDead => exact .inl rfl
  | psmLive => exact Psm.take_told _ _ s
  | esdOpen => exact Esd.openRequest_told s
  | esdClose => exact Esd.closeRequest_told s
  | esdWithdraw => exact Esd.withdraw_told s
  | bkdOpen | bkdTrip | bkdRetest | bkdClose | bkdSlot | bkdSeq => exact absurd hx Bool.true_eq_false_eq_False
  | ptuOnset x => exact Ptu.onset_told x s
  | ptuCondition x => exact Ptu.condition_told x s
  | ptuBreaker b =>
    show Told s (Ptu.onBreaker b s)
    unfold Ptu.onBreaker
    split
    · exact .of_latched rfl
    · exact .same _ _
  | ptuSeq old new =>
    show Told s (Ptu.onSeq old new s)
    unfold Ptu.onSeq
    simp only
    split
    · exact .of_latched rfl
    · exact .same _ _
  | csqNotice | csqBreaker | csqCloseAccepted | csqCloseFailed | csqAntiPumpEnded | csqLatchesEngaged
  | csqLatchFail | csqPlugDisturbed | csqLatchesReleased | csqSwitch | csqFloorHeld | csqSlotHeld | csqPermit
  | csqPermitWithdrawn | csqDeadConfirmed | csqDeadWithdrawn | csqNegative | csqShoreLoss | csqLinkLoss
  | csqEntered => exact (handle_moves _ s).told w rfl rfl rfl rfl
  | _ => exact .of_within w rfl rfl rfl rfl rfl

/-- One hand-off of a cascade. -/
theorem handle_breakerPending (x : Handoff) (rest : List Handoff) (s : State) (h : BreakerPending (s, x :: rest)) :
    BreakerPending ((handle x s).1, (handle x s).2 ++ rest) := by
  by_cases hx : x.reach.contains .bkd = false
  · have hr : x.retests = false := by cases x <;> first | rfl | exact absurd hx Bool.true_eq_false_eq_False
    refine h.of_told (handle_told x s hx) ((handle_within x s).bkd hx) (handle_kept x s).cfl
      (List.subset_append_left _ _) fun ⟨y, hy, k⟩ => ?_
    obtain rfl | hy := List.mem_cons.mp hy
    · exact absurd (hr.symm.trans k) Bool.false_ne_true
    · exact ⟨y, List.mem_append_right _ hy, k⟩
  rw [Bool.not_eq_false] at hx
  have wait {y : Handoff} {m : List Handoff} (hy : y.retests = false) (k : retestWaits (y :: rest)) :
      retestWaits (m ++ rest) := by
    obtain ⟨z, hz, k⟩ := k
    obtain rfl | hz := List.mem_cons.mp hz
    · exact absurd (hy.symm.trans k) Bool.false_ne_true
    · exact ⟨z, List.mem_append_right _ hz, k⟩
  cases x with
  | bkdOpen | bkdTrip => exact Bkd.order_safe h.1 _
  | bkdRetest => exact (Bkd.retest_safe h.1).pending _
  | bkdSeq old new => exact Bkd.onSeq_pending h.1 old new _
  | bkdClose => exact Bkd.closeOrder_pending ⟨h.1, fun hh => (h.2 hh).imp id (wait rfl)⟩
  | bkdSlot held =>
    refine ⟨Bkd.slot_local held h.1, fun hh => ?_⟩
    have hb : (Bkd.slot held s).1.bkd.hold = s.bkd.hold := by unfold Bkd.slot; simp only; split <;> rfl
    have hc : (Bkd.slot held s).1.holdConditions = s.holdConditions := by
      unfold Bkd.slot; simp only; split <;> rfl
    exact (h.2 (hb.symm.trans hh)).imp hc.trans (wait rfl)
  | _ => exact absurd hx Bool.false_ne_true

theorem drain_breakerSafe (n : Nat) (l : List Handoff) (s : State) (h : BreakerPending (s, l)) :
    (drain n l s).BreakerSafe := by
  induction n generalizing l s with
  | zero => exact Bkd.retest_safe h.1
  | succ n ih =>
    cases l with
    | nil => exact h.1.safe fun hh => (h.2 hh).resolve_right fun ⟨_, hx, _⟩ => absurd hx List.not_mem_nil
    | cons x rest => exact ih _ _ (handle_breakerPending x rest s h)

theorem Out.run_breakerSafe {o : Out} (h : BreakerPending o) : o.run.BreakerSafe := drain_breakerSafe _ _ _ h

/-! #### Due moves -/

theorem due_told {s : State} {o : Out} (h : s.due = some o) : Told s o := by
  rcases due_cases h with h | h | h | h | h
  · exact Esd.due_told h
  · rw [Psm.due_eq h]; exact Psm.take_told _ _ s
  · rw [Esd.ownRequest_eq h]; exact Esd.closeRequest_told s
  · exact (Csq.due_moves h).told (Csq.due_only s o h).within rfl rfl rfl rfl
  · rw [Tbc.due_eq h]; exact .of_within (Tbc.begin_only s).within rfl rfl rfl rfl rfl

theorem due_breakerPending {s : State} {o : Out} (h : s.due = some o) (hs : s.BreakerSafe) : BreakerPending o :=
  (hs.pending []).of_told (due_told h) ((due_within h).bkd rfl) ((due_within h).cfl rfl) (List.Subset.refl _)
    fun ⟨_, hx, _⟩ => absurd hx List.not_mem_nil

theorem settle_breakerSafe (n : Nat) (s : State) (h : s.BreakerSafe) : (settle n s).BreakerSafe := by
  induction n generalizing s with
  | zero => exact h
  | succ n ih =>
    unfold settle
    split
    · exact h
    next o ho => exact ih _ (Out.run_breakerSafe (due_breakerPending ho h))

theorem State.BreakerSafe.refresh {s : State} (h : s.BreakerSafe) : s.refresh.BreakerSafe := { h with }

theorem Out.conclude_breakerSafe {o : Out} (h : BreakerPending o) : o.conclude.BreakerSafe := by
  unfold Out.conclude
  refine State.BreakerSafe.refresh ?_
  split
  · exact settle_breakerSafe _ _ (Out.run_breakerSafe h)
  · exact Out.run_breakerSafe h

/-! ### Commands -/

theorem Pnl.press_told (b : Button) {f : State → Out} (h : ∀ s, Told s (f s)) (s : State) : Told s (Pnl.press b f s) :=
    by
  unfold Pnl.press
  simp only
  split
  · exact (h _).of_inputs_eq rfl
  · exact .same _ _

/-- R141: an ACK-TRIP, through the protection unit. -/
theorem Tbc.forOwn_told (d : List Byte) {f : State → Out} (h : ∀ s, Told s (f s)) (s : State) :
    Told s (Tbc.forOwn d f s) := by
  unfold Tbc.forOwn
  split
  · exact h s
  · exact .same _ _

theorem Tbc.deal_told (kind : BusKind) (b : Nat) (d : List Byte) (s : State) : Told s (Tbc.deal kind b d s) := by
  cases kind with
  | ackTrip => exact Tbc.forOwn_told d (fun s => Ptu.acknowledge_told _ s) s
  | query => exact (Tbc.deal_moves .query b d s).told (Tbc.forOwn_within d (Tbc.onQuery_within d) s) rfl rfl rfl rfl
  | status => exact .of_within (Tbc.onStatus_within d b s) rfl rfl rfl rfl rfl
  | bid => exact .of_within (Tbc.onBid_within d b s) rfl rfl rfl rfl rfl
  | object => exact .of_within (Clu.onObject_within _ _ s) rfl rfl rfl rfl rfl
  | stepFree => exact .of_within (Clu.onStepFree_within b s) rfl rfl rfl rfl rfl
  | control => exact .of_within (Tbc.forOwn_within d (Tbc.onControl_within d) s) rfl rfl rfl rfl rfl
  | stepBid | reply => exact .inl rfl

theorem Tbc.frame_told (i : BitVec 11) (d : List Byte) (s : State) : Told s (Tbc.frame i d s) := by
  cases hb : s.tbc.can.onBus with
  | false => rw [Tbc.frame_of_offBus i d hb]; exact .same _ _
  | true =>
    rw [Tbc.frame_of_onBus i d hb]
    refine Told.of_inputs_eq (t := s.heard) ?_ rfl
    obtain ⟨-, e⟩ | ⟨-, e⟩ | ⟨kind, b, -, e⟩ := Tbc.act_cases i d s.heard <;> rw [e]
    · exact .same _ _
    · exact .of_within (Tbc.ownNumber_within _) rfl rfl rfl rfl rfl
    · exact Tbc.deal_told kind b d _

/-- The commands at which the breaker drive's own items, or the configuration, can change, and those that carry their
hand-offs out themselves. -/
def reachesDrive : Instr → Bool
  | .powerOn _ | .resetAsserted | .resetReleased _ | .configLoadEnd _ | .censusTimerExpiry | .meteringDelivery _
  | .checkEvent | .auxContactChange _ _ | .closePulseEnd | .tripPulseEnd | .closeSupervisionExpiry
  | .openSupervisionExpiry | .contactWatchExpiry | .antiPumpExpiry => true
  | _ => false

theorem answer_told {c : Instr} (hc : reachesDrive c = false) (s : State) : Told s (answer c s) := by
  have w := answer_within c s
  cases c with
  | powerOn | resetAsserted | resetReleased | configLoadEnd | censusTimerExpiry | meteringDelivery | checkEvent
  | auxContactChange | closePulseEnd | tripPulseEnd | closeSupervisionExpiry | openSupervisionExpiry
  | contactWatchExpiry | antiPumpExpiry => exact absurd hc Bool.true_eq_false_eq_False
  | pilotMade i => exact Psm.pilotMade_told i s
  | pilotOpened i => exact Psm.pilotOpened_told i s
  | validationTimerExpiry i => exact Psm.validated_told i s
  | earthchkChange b => exact Psm.earthchk_told b s
  | latchFeedbackChange i b => exact Psm.latchFeedback_told i b s
  | engageSupervisionExpiry => exact Psm.engageExpired_told s
  | deadTimerExpiry => exact Psm.deadExpired_told s
  | eswPositionChange a b => exact Esd.positions_told a b s
  | eswTravelTimerExpiry => exact Esd.travelExpired_told s
  | eswSettleTimerExpiry => exact Esd.settled_told s
  | ackPress => exact Pnl.press_told .ack (Ptu.acknowledge_told _) s
  | connectPress =>
    refine Pnl.press_told .connect (fun u => ?_) s
    obtain h | h := Csq.connect_moves u
    · exact h.told (Csq.connect_only u).within rfl rfl rfl rfl
    · refine (h.told (bs := [.csq]) ?_ rfl rfl rfl rfl).of_inputs_eq rfl
      exact Within.trans (.of_blend rfl : Within [.csq] u.unmasked u) (Csq.connect_only u).within
  | estopChange b =>
    show Told s (Ptu.estop b s)
    unfold Ptu.estop
    simp only
    split
    · exact (Told.of_latched rfl).of_inputs_eq rfl
    · exact .inl rfl
  | status i d | bid i d | object i d | stepBid i d | stepFree i d | querySummary i d | queryPeer i d | ackTrip i d
  | clearAttention i d | forgetPeer i d => exact Tbc.frame_told i d s
  | queryTrip f | queryResult f => exact Tbc.frame_told f.ident f.data s
  | phaseTimerExpiry | releaseDelayExpiry | slotTimerExpiry | quietTimerExpiry | isolatingWatchExpiry | releasePress
  | hardRelease | lockoutClear | transferIn | ready | unloaded | handback | taken | abandon | shipLinkByteReceived =>
    exact (answer_moves rfl s).told w rfl rfl rfl rfl
  | _ => exact .of_within w rfl rfl rfl rfl rfl

/-- A command of the breaker drive, whose own items do not raise HOLD. -/
theorem BreakerPending.of_bkd {s : State} {o : Out} (h : s.BreakerSafe) (w : Within [.pins, .bkd] s o.1)
    (hl : o.1.BreakerLocal) (hh : o.1.bkd.hold = true → s.bkd.hold = true) : BreakerPending o := by
  refine ⟨hl, fun k => .inl ?_⟩
  have e : o.1.holdInputs = s.holdInputs := by
    simp only [State.holdInputs, w.setHeld_eq rfl rfl, w.esd rfl, w.ptu rfl, w.csq rfl]
  rw [State.holdConditions_congr e]
  exact h.hold_conditions (hh k)

/-- The breaker drive with HOLD released, in a running part or before a load. -/
theorem State.BreakerLocal.released {s t : State} (h : s.BreakerLocal) (hc : t.cfl = s.cfl)
    (hr : s.running = true) (hh : t.bkd.hold = false) (hp : t.bkd.closePulse = s.bkd.closePulse)
    (hs : t.bkd.slotHeld = s.bkd.slotHeld) : t.BreakerLocal where
  hold_state k := absurd (hh.symm.trans k) Bool.false_ne_true
  close_slot k := by rw [hp] at k; rw [hs]; exact h.close_slot k
  stopped k := by
    unfold State.running at k hr
    rw [hc, hr] at k
    exact absurd k Bool.true_eq_false_eq_False

theorem Bkd.contacts_pending (c o : Bool) {s : State} (h : s.BreakerSafe) : BreakerPending (Bkd.contacts c o s) := by
  have l := h.local
  cases hr : s.running with
  | false =>
    unfold Bkd.contacts
    simp only
    rw [if_pos (by simp [State.running] at hr ⊢; exact hr)]
    exact ⟨⟨h.hold_state, h.close_slot, h.stopped⟩, fun k => .inl (h.hold_conditions k)⟩
  | true =>
    have never : s.running = false → False := fun k =>
      absurd (hr.symm.trans k) Bool.true_eq_false_eq_False
    have off (h1 : s.bkd.state ≠ .closing) (h2 : s.bkd.state ≠ .closed) := l.not_hold h1 h2
    refine .of_bkd h (Bkd.contacts_within c o s) ?_ ?_
    · unfold Bkd.contacts
      simp only
      split
      · exact ⟨h.hold_state, h.close_slot, h.stopped⟩
      split
      next hs _ => exact ⟨fun _ => .inr rfl, h.close_slot, fun k => (never k).elim⟩
      next hs _ => exact ⟨fun _ => .inl hs, h.close_slot, fun k => (never k).elim⟩
      next hs _ => exact l.released rfl hr rfl rfl rfl
      next hs _ => exact ⟨fun _ => .inr hs, h.close_slot, fun k => (never k).elim⟩
      next hs _ _ => exact ⟨fun _ => .inr hs, h.close_slot, fun k => (never k).elim⟩
      next hs _ =>
        exact l.released rfl hr (off (by simp [show s.bkd.state = _ from hs]) (by simp [show s.bkd.state = _ from hs]))
          rfl rfl
      next hs _ => exact ⟨h.hold_state, h.close_slot, h.stopped⟩
      next hs _ =>
        exact l.released rfl hr (off (by simp [show s.bkd.state = _ from hs]) (by simp [show s.bkd.state = _ from hs]))
          rfl rfl
      next hs _ => exact ⟨h.hold_state, h.close_slot, h.stopped⟩
      next hs _ => exact ⟨h.hold_state, h.close_slot, h.stopped⟩
      next hs _ =>
        exact l.released rfl hr (off (by simp [show s.bkd.state = _ from hs]) (by simp [show s.bkd.state = _ from hs]))
          rfl rfl
    · unfold Bkd.contacts
      simp only
      split
      · exact id
      split <;> first | exact id | exact fun k => absurd k Bool.false_ne_true

theorem State.BreakerLocal.running_of_sup {s : State} (h : s.BreakerLocal)
    (hs : s.bkd.closeSup.isSome = true ∨ s.bkd.openSup.isSome = true ∨ s.bkd.contactWatch.isSome = true) :
    s.running = true := by
  by_contra k
  obtain ⟨-, -, h3, h4, h5⟩ := h.stopped (by simpa using k)
  simp [h3, h4, h5] at hs

theorem Bkd.closeExpired_pending {s : State} (h : s.BreakerSafe) : BreakerPending (Bkd.closeExpired s) := by
  refine .of_bkd h ((Bkd.closeExpired_within s).mono (by simp)) ?_ ?_
  · unfold Bkd.closeExpired
    split
    next hs => exact h.local.released rfl (h.local.running_of_sup (.inl hs)) rfl rfl rfl
    · exact h.local
  · unfold Bkd.closeExpired
    split
    · exact fun k => absurd k Bool.false_ne_true
    · exact id

theorem Bkd.openExpired_pending {s : State} (h : s.BreakerSafe) : BreakerPending (Bkd.openExpired s) := by
  refine .of_bkd h ((Bkd.openExpired_within s).mono (by simp)) ?_ ?_
  · unfold Bkd.openExpired
    split
    next hs =>
      split <;> exact h.local.released rfl (h.local.running_of_sup (.inr (.inl hs))) rfl rfl rfl
    · exact h.local
  · unfold Bkd.openExpired
    split
    · split <;> exact fun k => absurd k Bool.false_ne_true
    · exact id

theorem Bkd.watchExpired_pending {s : State} (h : s.BreakerSafe) : BreakerPending (Bkd.watchExpired s) := by
  refine .of_bkd h ((Bkd.watchExpired_within s).mono (by simp)) ?_ ?_
  · unfold Bkd.watchExpired
    split
    next hs => exact h.local.released rfl (h.local.running_of_sup (.inr (.inr hs))) rfl rfl rfl
    · exact h.local
  · unfold Bkd.watchExpired
    split
    · exact fun k => absurd k Bool.false_ne_true
    · exact id

/-- The end of a load, or of its failure: HOLD is off before and after it. -/
theorem State.loadEnd_pending (d : List Byte) {s : State} (h : s.BreakerSafe) : BreakerPending (s.loadEnd d) := by
  unfold State.loadEnd
  split
  next hs =>
    have hr : s.running = false := by rw [State.running, eq_of_beq hs]; rfl
    obtain ⟨-, hh, -⟩ := h.stopped hr
    have released {o : Out} (ho : o.1.bkd.hold = false) (l : o.1.BreakerLocal) : BreakerPending o :=
      ⟨l, fun k => absurd (ho.symm.trans k) Bool.false_ne_true⟩
    split
    · have hb : (Bkd.atLoad s.pins s.bkd).hold = false := by
        rw [← hh]; unfold Bkd.atLoad; simp only; split <;> rfl
      have hp : (Bkd.atLoad s.pins s.bkd).closePulse = s.bkd.closePulse := by
        unfold Bkd.atLoad; simp only; split <;> rfl
      have hsl : (Bkd.atLoad s.pins s.bkd).slotHeld = s.bkd.slotHeld := by
        unfold Bkd.atLoad; simp only; split <;> rfl
      refine released hb ⟨fun k => absurd (hb.symm.trans k) Bool.false_ne_true, fun k => ?_, fun k => ?_⟩
      · exact hsl.trans (h.close_slot (hp ▸ k))
      · exact absurd k Bool.true_eq_false_eq_False
    · exact released hh ⟨h.hold_state, h.close_slot, fun _ => h.stopped hr⟩
  · exact h.pending []

theorem setConsumers_told (r : ReadingSet) (lost going : Bool) :
    ∀ f ∈ setConsumers r lost going, ∀ t, Told t (f t) :=
  forall_setConsumers (fun t => Psm.take_told _ _ t)
    (fun t => .of_within (Spv.onSet_within r lost t) rfl rfl rfl rfl rfl)
    (fun t => .of_within (Syc.onSet_within r lost t) rfl rfl rfl rfl rfl)
    (fun t => Told.of_latched (Ptu.onSet_latched r t))
    (fun t => .of_within (Shc.onSet_only r t).within rfl rfl rfl rfl rfl) (fun t => Psm.onSet_told r t)
    (fun t => .of_within (Clu.onSet_within r t) rfl rfl rfl rfl rfl)
    fun t => (setConsumers_moves r lost going (Csq.onSet r) (by simp [setConsumers]) t).told
      (Csq.onSet_only r t).within rfl rfl rfl rfl

theorem lossConsumers_told : ∀ f ∈ lossConsumers, ∀ t, Told t (f t) :=
  forall_lossConsumers (fun _ => .of_latched rfl) (fun t => Psm.take_told _ _ t) (fun _ => .inl rfl) fun _ => .inl rfl

/-- Blocks that are offered an event one after the other. -/
theorem inTurn_breakerSafe {fs : List (State → Out)} (ht : ∀ f ∈ fs, ∀ t, Told t (f t))
    (hb : ∀ f ∈ fs, ∀ t, (f t).1.bkd = t.bkd ∧ (f t).1.cfl = t.cfl) {s : State} (h : s.BreakerSafe) :
    (inTurn fs s).BreakerSafe := by
  induction fs generalizing s with
  | nil => exact h
  | cons f rest ih =>
    refine ih (fun g hg => ht g (List.mem_cons_of_mem _ hg)) (fun g hg => hb g (List.mem_cons_of_mem _ hg)) ?_
    obtain ⟨e, e'⟩ := hb f (List.mem_cons_self ..) s
    exact Out.run_breakerSafe ((h.pending []).of_told (ht f (List.mem_cons_self ..) s) e e' (List.Subset.refl _)
      fun ⟨_, hx, _⟩ => absurd hx List.not_mem_nil)

theorem setConsumers_bkd_cfl (r : ReadingSet) (lost going : Bool) :
    ∀ f ∈ setConsumers r lost going, ∀ t, (f t).1.bkd = t.bkd ∧ (f t).1.cfl = t.cfl :=
  forall_setConsumers (fun _ => ⟨rfl, rfl⟩)
    (fun t => have w := Spv.onSet_within r lost t; ⟨w.bkd rfl, w.cfl rfl⟩)
    (fun t => have w := Syc.onSet_within r lost t; ⟨w.bkd rfl, w.cfl rfl⟩) (fun _ => ⟨rfl, rfl⟩)
    (fun t => have w := (Shc.onSet_only r t).within; ⟨w.bkd rfl, w.cfl rfl⟩)
    (fun t => have w := (Psm.onSet_only r t).within; ⟨w.bkd rfl, w.cfl rfl⟩)
    (fun t => have w := Clu.onSet_within r t; ⟨w.bkd rfl, w.cfl rfl⟩)
    fun t => have w := (Csq.onSet_only r t).within; ⟨w.bkd rfl, w.cfl rfl⟩

theorem Mtp.deliver_breakerSafe (bits : List Bool) {s : State} (h : s.BreakerSafe) :
    (Mtp.deliver bits s).BreakerSafe := by
  have hm (m : Mtp) : (s.setMtp m).BreakerSafe := { h with }
  unfold Mtp.deliver
  simp only
  split; · exact h
  split; · exact hm _
  exact inTurn_breakerSafe (setConsumers_told _ _ _) (setConsumers_bkd_cfl _ _ _) (hm _)

theorem Mtp.checkEvent_breakerSafe {s : State} (h : s.BreakerSafe) : (Mtp.checkEvent s).BreakerSafe := by
  have hm (m : Mtp) : (s.setMtp m).BreakerSafe := { h with }
  unfold Mtp.checkEvent
  simp only
  split; · exact h
  split
  · exact inTurn_breakerSafe lossConsumers_told
      (forall_lossConsumers (fun _ => ⟨rfl, rfl⟩) (fun _ => ⟨rfl, rfl⟩) (fun _ => ⟨rfl, rfl⟩) fun _ => ⟨rfl,
        rfl⟩) (hm _)
  · exact hm _

theorem answer_breakerPending (c : Instr) {s : State} (h : s.BreakerSafe) : BreakerPending (answer c s) := by
  have w := answer_within c s
  have reset {t : State} (hb : t.bkd.hold = false) (hp : t.bkd.closePulse = none)
      (hs : t.bkd.state = .opening ∧ t.bkd.hold = false ∧ t.bkd.closeSup = none ∧ t.bkd.openSup = none ∧
        t.bkd.contactWatch = none) : BreakerPending (t, []) :=
    ⟨⟨fun k => absurd (hb.symm.trans k) Bool.false_ne_true, fun k => by rw [hp] at k; exact absurd k Bool.false_ne_true,
      fun _ => hs⟩, fun k => absurd (hb.symm.trans k) Bool.false_ne_true⟩
  cases hc : reachesDrive c with
  | false =>
    have hb : (commandReach c).contains .bkd = false := by
      cases c <;> first | rfl | exact absurd hc Bool.true_eq_false_eq_False
    have hf : (commandReach c).contains .cfl = false := by
      cases c <;> first | rfl | exact absurd hc Bool.true_eq_false_eq_False
    exact (h.pending []).of_told (answer_told hc s) (w.bkd hb) (w.cfl hf) (List.Subset.refl _)
      fun ⟨_, hx, _⟩ => absurd hx List.not_mem_nil
  | true =>
    cases c with
    | powerOn | resetAsserted => exact reset rfl rfl ⟨rfl, rfl, rfl, rfl, rfl⟩
    | resetReleased n =>
      show BreakerPending (s.released n, [])
      unfold State.released
      split
      next hs =>
        have hr : s.running = false := by rw [State.running, eq_of_beq hs]; rfl
        exact ⟨⟨h.hold_state, h.close_slot, fun _ => h.stopped hr⟩, fun k => .inl (h.hold_conditions k)⟩
      · exact h.pending []
    | configLoadEnd d => exact State.loadEnd_pending d h
    | censusTimerExpiry =>
      have hu : ((s.setCfl { s.cfl with census := none }).setMtp { s.mtp with armed := true }).BreakerSafe := { h with }
      show BreakerPending s.censusEnd
      unfold State.censusEnd
      simp only
      split
      · split
        · refine (hu.pending []).of_told ((Csq.firstState_moves _).told (Csq.firstState_only _).within rfl rfl rfl rfl)
            ((Csq.firstState_only _).within.bkd rfl) ((Csq.firstState_only _).within.cfl rfl) (List.Subset.refl _)
            fun ⟨_, hx, _⟩ => absurd hx List.not_mem_nil
        · exact hu.pending []
      · exact h.pending []
    | meteringDelivery bits => exact (Mtp.deliver_breakerSafe bits h).pending []
    | checkEvent => exact (Mtp.checkEvent_breakerSafe h).pending []
    | auxContactChange a b => exact Bkd.contacts_pending a b h
    | closePulseEnd =>
      exact .of_bkd h (w.mono (by simp [commandReach]))
        ⟨h.hold_state, fun k => absurd k Bool.false_ne_true, h.stopped⟩ id
    | tripPulseEnd => exact .of_bkd h (w.mono (by simp [commandReach])) ⟨h.hold_state, h.close_slot, h.stopped⟩ id
    | closeSupervisionExpiry => exact Bkd.closeExpired_pending h
    | openSupervisionExpiry => exact Bkd.openExpired_pending h
    | contactWatchExpiry => exact Bkd.watchExpired_pending h
    | antiPumpExpiry =>
      show BreakerPending (Bkd.antiPumpExpired s)
      unfold Bkd.antiPumpExpired
      split
      · exact ⟨⟨h.hold_state, h.close_slot, h.stopped⟩, fun k => .inl (h.hold_conditions k)⟩
      · exact h.pending []
    | _ => exact absurd hc Bool.false_ne_true

theorem after_breakerSafe (c : Instr) (s : State) (h : s.BreakerSafe) : (after c s).BreakerSafe := by
  unfold after
  split
  next hc =>
    obtain ⟨l, g⟩ := answer_breakerPending c h
    refine State.BreakerSafe.refresh (l.safe fun hh => (g hh).resolve_right ?_)
    have hn : (answer c s).2 = [] := by
      cases c with
      | powerOn | resetAsserted | resetReleased => rfl
      | _ => exact absurd hc Bool.false_ne_true
    rw [hn]
    exact fun ⟨_, hx, _⟩ => absurd hx List.not_mem_nil
  · exact Out.conclude_breakerSafe (answer_breakerPending c h)

theorem Ptu.tick_latched (now : Nat) (p : Ptu) : (p.tick now).latched = p.latched := by
  unfold Ptu.tick
  split <;> rfl

theorem State.tickRunning_holdInputs (s : State) : s.tickRunning.holdInputs = s.holdInputs := by
  unfold State.holdInputs
  rw [show s.tickRunning.ptu.latched = s.ptu.latched from Ptu.tick_latched _ _]
  rfl

theorem Timer.tick_isSome (t : Timer) : (Timer.tick t).isSome = t.isSome := by
  cases t <;> rfl

theorem step_breakerSafe {s t : State} (h : step s = .next t) : s.BreakerSafe → t.BreakerSafe := by
  refine step_keeps State.BreakerSafe (fun _ _ h => { h with }) after_breakerSafe (fun s h =>
    State.BreakerSafe.refresh ?_) h
  unfold State.tick
  split
  next hr =>
    refine ⟨h.hold_state, fun k => ?_, fun k => h.close_slot ?_, fun k => ?_⟩
    · rw [State.holdConditions_congr s.tickRunning_holdInputs]
      exact h.hold_conditions k
    · rwa [← Timer.tick_isSome]
    · exact absurd (hr.symm.trans k) Bool.true_eq_false_eq_False
  next hr =>
    refine ⟨h.hold_state, h.hold_conditions, fun k => h.close_slot ?_, fun k => ?_⟩
    · rwa [← Timer.tick_isSome]
    · obtain ⟨h1, h2, h3, h4, h5⟩ := h.stopped k
      exact ⟨h1, h2, congrArg Timer.tick h3, congrArg Timer.tick h4, congrArg Timer.tick h5⟩

/-! ### The switch outputs -/

theorem Esd.DriveSafe.of_released {e : Esd} (h : e.driving = false) : e.DriveSafe :=
  fun k => absurd (h.symm.trans k) Bool.false_ne_true

/-- A travel has a direction. -/
theorem Esd.travelTo_safe {dir : EswDir} (hd : dir ≠ .none) (driving : Bool) (s : State) :
    (Esd.travelTo dir driving s).1.esd.DriveSafe := fun _ => ⟨rfl, hd⟩

theorem Esd.closeRequest_safe {s : State} (h : s.esd.DriveSafe) : (Esd.closeRequest s).1.esd.DriveSafe := by
  unfold Esd.closeRequest
  split
  · exact h
  · exact h
  · exact h
  · exact Esd.travelTo_safe (by simp) _ s
  all_goals
    split
    · exact Esd.travelTo_safe (by simp) _ s
    · exact h

theorem Esd.openRequest_safe {s : State} (h : s.esd.DriveSafe) : (Esd.openRequest s).1.esd.DriveSafe := by
  unfold Esd.openRequest
  split
  · exact h
  · exact h
  · exact h
  · exact Esd.travelTo_safe (by simp) _ s
  all_goals
    split
    · exact Esd.travelTo_safe (by simp) _ s
    · exact h

theorem Esd.due_safe {s : State} {o : Out} (h : Esd.due s = some o) : o.1.esd.DriveSafe := by
  unfold Esd.due at h
  simp only at h
  split at h
  · cases h; exact Esd.travelTo_safe (by simp) _ s
  split at h
  · cases h; exact Esd.travelTo_safe (by simp) _ s
  split at h
  next hm =>
    cases h
    simp only [Bool.and_eq_true, beq_iff_eq, bne_iff_ne] at hm
    exact fun _ => hm.1
  · exact absurd h (by simp)

theorem Esd.positions_safe (c o : Bool) {s : State} (h : s.esd.DriveSafe) : (Esd.positions c o s).1.esd.DriveSafe := by
  unfold Esd.positions
  simp only
  split
  · exact h
  split
  all_goals first
    | exact h
    | exact .of_released rfl
    | (split <;> first | exact h | exact .of_released rfl)

theorem Esd.settled_safe {s : State} (h : s.esd.DriveSafe) : (Esd.settled s).1.esd.DriveSafe := by
  unfold Esd.settled
  split
  · split <;> first | exact h | exact .of_released rfl
  · exact h

theorem handle_driveSafe (x : Handoff) (s : State) (h : s.esd.DriveSafe) : (handle x s).1.esd.DriveSafe := by
  by_cases hr : x.reach.contains .esd = false
  · rwa [(handle_within x s).esd hr]
  rw [Bool.not_eq_false] at hr
  cases x with
  | esdOpen => exact Esd.openRequest_safe h
  | esdClose => exact Esd.closeRequest_safe h
  | esdWithdraw =>
    show (Esd.withdraw s).1.esd.DriveSafe
    unfold Esd.withdraw
    split <;> exact h
  | _ => exact absurd hr Bool.false_ne_true

theorem due_driveSafe {s : State} {o : Out} (ho : s.due = some o) (h : s.esd.DriveSafe) : o.1.esd.DriveSafe := by
  rcases due_cases ho with ho | ho | ho | ho | ho
  · exact Esd.due_safe ho
  · rw [Psm.due_eq ho, (Psm.carryOutRelease_only s).within.esd rfl]; exact h
  · rw [Esd.ownRequest_eq ho]; exact Esd.closeRequest_safe h
  · rw [(Csq.due_only s o ho).within.esd rfl]; exact h
  · rw [Tbc.due_eq ho, (Tbc.begin_only s).within.esd rfl]; exact h

theorem setConsumers_esd (r : ReadingSet) (lost going : Bool) :
    ∀ f ∈ setConsumers r lost going, ∀ t, (f t).1.esd = t.esd :=
  forall_setConsumers (fun _ => rfl) (fun t => (Spv.onSet_within r lost t).esd rfl)
    (fun t => (Syc.onSet_within r lost t).esd rfl) (fun _ => rfl) (fun t => (Shc.onSet_only r t).within.esd rfl)
    (fun t => (Psm.onSet_only r t).within.esd rfl) (fun t => (Clu.onSet_within r t).esd rfl)
    fun t => (Csq.onSet_only r t).within.esd rfl

theorem answer_driveSafe (c : Instr) {s : State} (h : s.esd.DriveSafe) : (answer c s).1.esd.DriveSafe := by
  by_cases hr : (commandReach c).contains .esd = false
  · rwa [(answer_within c s).esd hr]
  rw [Bool.not_eq_false] at hr
  cases c with
  | powerOn | resetAsserted => exact .of_released rfl
  | configLoadEnd d =>
    show (s.loadEnd d).1.esd.DriveSafe
    unfold State.loadEnd
    split
    · split
      · exact .of_released rfl
      · exact h
    · exact h
  | eswPositionChange a b => exact Esd.positions_safe a b h
  | eswTravelTimerExpiry =>
    show (Esd.travelExpired s).1.esd.DriveSafe
    unfold Esd.travelExpired
    split
    · exact .of_released rfl
    · exact h
  | eswSettleTimerExpiry => exact Esd.settled_safe h
  | meteringDelivery bits =>
    exact Mtp.deliver_keeps (fun t => t.esd.DriveSafe) handle_driveSafe h h (fun _ => h)
      fun going f hf t k => by rwa [setConsumers_esd _ _ going f hf t]
  | checkEvent =>
    exact Mtp.checkEvent_keeps (fun t => t.esd.DriveSafe) handle_driveSafe h h
      (forall_lossConsumers (fun _ k => k) (fun _ k => k) (fun _ k => k) fun _ k => k)
  | _ => exact absurd hr Bool.false_ne_true

theorem after_driveSafe (c : Instr) (s : State) (h : s.esd.DriveSafe) : (after c s).esd.DriveSafe :=
  after_keeps (fun t => t.esd.DriveSafe) handle_driveSafe (fun _ _ => due_driveSafe) (fun _ h =>
    h) (answer_driveSafe c h)

theorem step_driveSafe {s t : State} (h : step s = .next t) : s.esd.DriveSafe → t.esd.DriveSafe := by
  refine step_keeps (fun t => t.esd.DriveSafe) (fun _ _ h => h) after_driveSafe (fun s h => ?_) h
  show s.tick.esd.DriveSafe
  unfold State.tick
  split <;> exact h

/-- Settles O58: the cascade's invariant for the breaker drive, and the switch outputs hand-off by hand-off. -/
theorem drivesStaySafe : Obligations.DrivesStaySafe :=
  fun _ _ hb hd h => ⟨step_breakerSafe h hb, step_driveSafe h hd⟩

end Sys2Proof.Machine

namespace Sys2Proof.Machine

/-! ### The queue of the ship link in order -/

theorem Slc.Ordered.of_queue {c d : Slc} (h : c.Ordered) (e : d.queue = c.queue) : d.Ordered := by
  obtain ⟨h1, h2, h3⟩ := h
  constructor <;> rwa [e]

theorem Slc.Ordered.of_empty {c : Slc} (h : c.queue = []) : c.Ordered := by
  constructor <;> simp [h]

theorem ShipMsg.isHello_of_isCeiling {m : ShipMsg} (h : m.isCeiling = true) : m.isHello = false := by
  cases m <;> first | rfl | exact absurd h Bool.false_ne_true

/-- R114: an order keeps one CEILING in its place at most. -/
theorem putMsg_ceiling {m : ShipMsg} {q : List ShipMsg} (h : (q.filter ShipMsg.isCeiling).length ≤ 1) :
    ((putMsg m q).filter ShipMsg.isCeiling).length ≤ 1 := by
  unfold putMsg
  split
  next hc =>
    have hm : m.isCeiling = true := by simp at hc; exact hc.1
    have hk : (fun x : ShipMsg => (if x.isCeiling then m else x).isCeiling) = ShipMsg.isCeiling := by
      funext x; split <;> simp [*]
    rw [List.filter_map, List.length_map]
    exact (congrArg (fun p => (q.filter p).length) hk).trans_le h
  next hc =>
    split
    · exact h
    · split
      · rw [List.filter_append]
        cases hm : m.isCeiling with
        | false => simpa [hm] using h
        | true =>
          have : q.filter ShipMsg.isCeiling = [] := by simpa [hm] using hc
          simp [this, hm]
      · exact h

/-- R114: an order keeps one BERTH-HELLO at most. -/
theorem putMsg_hello {m : ShipMsg} {q : List ShipMsg} (h : (q.filter ShipMsg.isHello).length ≤ 1) :
    ((putMsg m q).filter ShipMsg.isHello).length ≤ 1 := by
  unfold putMsg
  split
  next hc =>
    have hm : m.isCeiling = true := by simp at hc; exact hc.1
    have hk : (fun x : ShipMsg => (if x.isCeiling then m else x).isHello) = ShipMsg.isHello := by
      funext x
      split
      next hx => rw [ShipMsg.isHello_of_isCeiling hx, ShipMsg.isHello_of_isCeiling hm]
      · rfl
    rw [List.filter_map, List.length_map]
    exact (congrArg (fun p => (q.filter p).length) hk).trans_le h
  next hc =>
    split
    · exact h
    next hn =>
      split
      · rw [List.filter_append]
        cases hm : m.isHello with
        | false => simpa [hm] using h
        | true =>
          have : q.filter ShipMsg.isHello = [] := by simpa [hm] using hn
          simp [this, hm]
      · exact h

section ShipQueue

variable {c : Slc} {s : State}

theorem Slc.begin_ordered (h : c.Ordered) : c.begin.Ordered := by
  unfold Slc.begin
  split
  next m rest _ hq =>
    have sub : List.Sublist rest c.queue := by rw [hq]; exact List.sublist_cons_self _ _
    exact ⟨Nat.le_trans sub.length_le h.queue_le, Nat.le_trans (sub.filter _).length_le h.one_ceiling,
      Nat.le_trans (sub.filter _).length_le h.one_hello⟩
  · exact h

theorem Slc.order_ordered (m : ShipMsg) (h : c.Ordered) : (c.order m).Ordered := by
  unfold Slc.order
  split
  · exact Slc.begin_ordered ⟨putMsg_length_le m c.queue h.queue_le, putMsg_ceiling h.one_ceiling,
      putMsg_hello h.one_hello⟩
  · exact h

theorem Slc.sendCeiling_ordered (k : Nat × Nat) (h : c.Ordered) : (c.sendCeiling k).Ordered :=
  Slc.order_ordered _ (h.of_queue rfl)

theorem Slc.announce_ordered (m : ShipMsg) (h : c.Ordered) : (c.announce m).Ordered :=
  Slc.order_ordered _ (h.of_queue rfl)

theorem Slc.enterUp_ordered (k : Nat × Nat) (h : c.Ordered) : (c.enterUp k).Ordered :=
  Slc.sendCeiling_ordered _ (h.of_queue rfl)

theorem Slc.change_ordered (new : LinkState) (h : s.slc.Ordered) : (Slc.change new s).1.slc.Ordered := by
  have left : (if s.slc.link == .up then s.slc.leaveUp else s.slc).Ordered := by
    split
    · exact .of_empty rfl
    · exact h
  unfold Slc.change
  simp only [State.setSlc_slc]
  split
  · refine Slc.enterUp_ordered _ ?_
    exact left.of_queue rfl
  · exact left.of_queue rfl
  all_goals
    refine Slc.announce_ordered _ ?_
    exact left.of_queue rfl

theorem Slc.plug_ordered (b : Bool) (h : s.slc.Ordered) : (Slc.plug b s).1.slc.Ordered := by
  unfold Slc.plug
  split
  · exact Slc.change_ordered .waiting (s := s.setSlc s.slc.clearFigures) (h.of_queue rfl)
  · exact h
  · exact h
  · exact Slc.change_ordered _ h

theorem Slc.presented_ordered (h : s.slc.Ordered) : (Slc.presented s).1.slc.Ordered := by
  unfold Slc.presented
  split
  · exact Slc.sendCeiling_ordered _ h
  · exact h

theorem Slc.shipHello_ordered (d : List Byte) (h : s.slc.Ordered) : (Slc.shipHello d s).1.slc.Ordered := by
  unfold Slc.shipHello
  simp only
  split
  · split
    · exact Slc.sendCeiling_ordered _ (h.of_queue rfl)
    · exact Slc.change_ordered .up (s := s.setSlc (s.slc.takeHello d)) (h.of_queue rfl)
  · split
    · exact h.of_queue rfl
    · exact Slc.change_ordered _ (s := s.setSlc _) (h.of_queue rfl)

theorem Slc.shipStatus_ordered (d : List Byte) (h : s.slc.Ordered) : (Slc.shipStatus d s).1.slc.Ordered := by
  unfold Slc.shipStatus
  split
  · exact h.of_queue rfl
  · exact h

theorem Slc.request_ordered {f : State → Out} (hf : ∀ s, OnlyCsq s (f s).1) (h : s.slc.Ordered) :
    (Slc.request f s).1.slc.Ordered := by
  unfold Slc.request
  split
  · rw [(hf _).within.slc rfl]; exact h.of_queue rfl
  · exact h

theorem Slc.message_ordered {f : State → Out} (hf : ∀ s, s.slc.Ordered → (f s).1.slc.Ordered) (h : s.slc.Ordered) :
    (Slc.message f s).1.slc.Ordered := by
  unfold Slc.message
  split
  · exact h
  · exact hf _ (h.of_queue rfl)

theorem Slc.dispatch_ordered (kind : Nat) (d : List Byte) (h : s.slc.Ordered) :
    (Slc.dispatch kind d s).1.slc.Ordered := by
  unfold Slc.dispatch
  simp only
  split
  · exact Slc.shipHello_ordered d h
  · exact Slc.shipStatus_ordered d h
  · exact Slc.request_ordered (Csq.transferIn_only _) h
  · exact Slc.request_ordered Csq.readyMsg_only h
  · exact Slc.request_ordered Csq.unloadedMsg_only h
  · exact Slc.request_ordered (Csq.handbackMsg_only _) h
  · exact Slc.request_ordered Csq.takenMsg_only h
  · exact Slc.request_ordered Csq.abandonMsg_only h
  · exact h

theorem Slc.receive_ordered (b : Byte) (e : Bool) (h : s.slc.Ordered) : (Slc.receive b e s).1.slc.Ordered := by
  unfold Slc.receive
  split
  · exact h
  split
  · split
    · exact h.of_queue rfl
    · exact h
  · simp only
    split
    · exact h.of_queue rfl
    split
    · exact h.of_queue rfl
    split
    · rw [Out.andThen_fst]
      split
      · exact Slc.dispatch_ordered _ _ (s := (Slc.hunt s).1) (h.of_queue rfl)
      · exact h.of_queue rfl
    · exact h.of_queue rfl

end ShipQueue

theorem handle_slc_ordered (x : Handoff) (s : State) (h : s.slc.Ordered) : (handle x s).1.slc.Ordered := by
  by_cases hr : x.reach.contains .slc = false
  · rwa [(handle_within x s).slc hr]
  rw [Bool.not_eq_false] at hr
  cases x with
  | slcPlug b => exact Slc.plug_ordered b h
  | slcOrder m => exact Slc.order_ordered m h
  | slcCeiling => exact Slc.presented_ordered h
  | _ => exact absurd hr Bool.false_ne_true

theorem setConsumers_slc (r : ReadingSet) (lost going : Bool) :
    ∀ f ∈ setConsumers r lost going, ∀ t, (f t).1.slc = t.slc :=
  forall_setConsumers (fun _ => rfl) (fun t => (Spv.onSet_within r lost t).slc rfl)
    (fun t => (Syc.onSet_within r lost t).slc rfl) (fun _ => rfl) (fun t => (Shc.onSet_only r t).within.slc rfl)
    (fun t => (Psm.onSet_only r t).within.slc rfl) (fun t => (Clu.onSet_within r t).slc rfl)
    fun t => (Csq.onSet_only r t).within.slc rfl

theorem answer_slc_ordered (c : Instr) {s : State} (h : s.slc.Ordered) : (answer c s).1.slc.Ordered := by
  by_cases hr : (commandReach c).contains .slc = false
  · rwa [(answer_within c s).slc hr]
  rw [Bool.not_eq_false] at hr
  cases c with
  | powerOn | resetAsserted => exact .of_empty rfl
  | meteringDelivery bits =>
    exact Mtp.deliver_keeps (fun t => t.slc.Ordered) handle_slc_ordered h h (fun _ => h)
      fun going f hf t k => by rwa [setConsumers_slc _ _ going f hf t]
  | checkEvent =>
    exact Mtp.checkEvent_keeps (fun t => t.slc.Ordered) handle_slc_ordered h h
      (forall_lossConsumers (fun _ k => k) (fun _ k => k) (fun _ k => k) fun _ k => k)
  | transferIn m => exact Slc.message_ordered (fun _ => Slc.request_ordered (Csq.transferIn_only _)) h
  | ready => exact Slc.message_ordered (fun _ => Slc.request_ordered Csq.readyMsg_only) h
  | unloaded => exact Slc.message_ordered (fun _ => Slc.request_ordered Csq.unloadedMsg_only) h
  | handback m => exact Slc.message_ordered (fun _ => Slc.request_ordered (Csq.handbackMsg_only _)) h
  | taken => exact Slc.message_ordered (fun _ => Slc.request_ordered Csq.takenMsg_only) h
  | abandon => exact Slc.message_ordered (fun _ => Slc.request_ordered Csq.abandonMsg_only) h
  | shipHello d =>
    refine Slc.message_ordered (fun t k => ?_) h
    split
    · exact Slc.shipHello_ordered d k
    · exact k
  | shipStatus d =>
    refine Slc.message_ordered (fun t k => ?_) h
    split
    · exact Slc.shipStatus_ordered d k
    · exact k
  | shipLinkByteReceived b e => exact Slc.receive_ordered b e h
  | shipFrameDiscard => exact h.of_queue rfl
  | shipByteGapTimeout =>
    show (Slc.gapExpired s).1.slc.Ordered
    unfold Slc.gapExpired
    split
    · exact h.of_queue rfl
    · exact h
  | shipTransmitEnd =>
    show (Slc.transmitEnd s).1.slc.Ordered
    unfold Slc.transmitEnd
    split
    · exact Slc.begin_ordered (h.of_queue rfl)
    · exact h
  | silenceTimerExpiry =>
    show (Slc.silenceExpired s).1.slc.Ordered
    unfold Slc.silenceExpired
    split
    · exact Slc.change_ordered _ (s := s.setSlc _) (h.of_queue rfl)
    · exact h
  | helloTimerExpiry =>
    show (Slc.helloExpired s).1.slc.Ordered
    unfold Slc.helloExpired
    split
    · exact Slc.announce_ordered _ h
    · exact h
  | ceilingTimerExpiry =>
    show (Slc.ceilingExpired s).1.slc.Ordered
    unfold Slc.ceilingExpired
    split
    · exact Slc.order_ordered _ (h.of_queue rfl)
    · exact h
  | linkHoldExpiry =>
    show (Slc.linkHoldExpired s).1.slc.Ordered
    unfold Slc.linkHoldExpired
    split
    · exact h.of_queue rfl
    · exact h
  | _ => exact absurd hr Bool.false_ne_true

theorem step_slc_ordered {s t : State} (h : step s = .next t) : s.slc.Ordered → t.slc.Ordered := by
  refine step_keeps (fun t => t.slc.Ordered) (fun _ _ h => h) (fun c s h => ?_) (fun s h => ?_) h
  · exact after_keeps (fun t => t.slc.Ordered) handle_slc_ordered (fun _ _ ho k => by rwa [(due_within ho).slc rfl])
      (fun _ k => k) (answer_slc_ordered c h)
  · show s.tick.slc.Ordered
    unfold State.tick
    split
    · exact h.of_queue rfl
    · exact h

end Sys2Proof.Machine

namespace Sys2Proof.Machine

/-! ### Tables in rising berth order -/

/-- A berth number that a peer can have at the berth `own`. -/
def PeerBerth (own b : Nat) : Prop := 1 ≤ b ∧ b ≤ 16 ∧ b ≠ own

section Tables

variable {own b : Nat}

theorem PeersOrdered.nil (own : Nat) : PeersOrdered own [] := ⟨.nil, by simp⟩

theorem StepsOrdered.nil (own : Nat) : StepsOrdered own [] := ⟨.nil, by simp⟩

theorem PeersOrdered.map {l : List Peer} (h : PeersOrdered own l) {f : Peer → Peer} (hf : ∀ p, (f p).berth = p.berth) :
    PeersOrdered own (l.map f) := by
  have hb : (l.map f).map (fun p => p.berth) = l.map fun p => p.berth := by simp [hf]
  refine ⟨hb ▸ h.1, fun p hp => ?_⟩
  obtain ⟨q, hq, rfl⟩ := List.mem_map.mp hp
  rw [hf]
  exact h.2 q hq

theorem PeersOrdered.updatePeer {l : List Peer} (h : PeersOrdered own l) {f : Peer → Peer}
    (hf : ∀ p, (f p).berth = p.berth) : PeersOrdered own (updatePeer b f l) :=
  h.map fun p => by split <;> simp [hf]

theorem PeersOrdered.erasePeer {l : List Peer} (h : PeersOrdered own l) : PeersOrdered own (erasePeer b l) :=
  ⟨h.1.sublist (List.filter_sublist.map _), fun p hp => h.2 p (List.mem_of_mem_filter hp)⟩

theorem mem_setPeer {p q : Peer} {l : List Peer} (h : q ∈ setPeer p l) : q = p ∨ q ∈ l := by
  induction l with
  | nil => simpa [setPeer] using h
  | cons r rest ih =>
    unfold setPeer at h
    split at h
    · simp at h ⊢; tauto
    split at h
    · simpa using h
    · simp at h ⊢; tauto

theorem PeersOrdered.setPeer {p : Peer} {l : List Peer} (h : PeersOrdered own l) (hp : PeerBerth own p.berth) :
    PeersOrdered own (setPeer p l) := by
  refine ⟨?_, fun q hq => (mem_setPeer hq).elim (· ▸ hp) (h.2 q)⟩
  have h1 := h.1
  clear h hp
  induction l with
  | nil => simp [Machine.setPeer]
  | cons q rest ih =>
    rw [List.map_cons, List.pairwise_cons] at h1
    obtain ⟨hq, hr⟩ := h1
    unfold Machine.setPeer
    split
    next e => rw [List.map_cons, List.pairwise_cons, ← e]; exact ⟨hq, hr⟩
    next hne =>
      split
      next hlt =>
        rw [List.map_cons, List.pairwise_cons, List.map_cons, List.pairwise_cons]
        refine ⟨fun n hn => ?_, hq, hr⟩
        obtain rfl | hn := List.mem_cons.mp hn
        · exact hlt
        · exact Nat.lt_trans hlt (hq n hn)
      next hge =>
        rw [List.map_cons, List.pairwise_cons]
        refine ⟨fun n hn => ?_, ih hr⟩
        obtain ⟨r, hrm, rfl⟩ := List.mem_map.mp hn
        obtain rfl | hrm := mem_setPeer hrm
        · omega
        · exact hq _ (List.mem_map_of_mem hrm)

theorem StepsOrdered.map {l : List StepRec} (h : StepsOrdered own l) {f : StepRec → StepRec}
    (hf : ∀ r, (f r).berth = r.berth ∧ (f r).bid.isSome = r.bid.isSome ∧ (f r).hold.isSome = r.hold.isSome) :
    StepsOrdered own (l.map f) := by
  have hb : (l.map f).map (fun r => r.berth) = l.map fun r => r.berth := by simp [hf]
  refine ⟨hb ▸ h.1, fun r hr => ?_⟩
  obtain ⟨q, hq, rfl⟩ := List.mem_map.mp hr
  obtain ⟨h1, h2, h3⟩ := hf q
  rw [h1, h2, h3]
  exact h.2 q hq

theorem mem_putStep {p q : StepRec} {l : List StepRec} (h : q ∈ putStep p l) : q = p ∨ q ∈ l := by
  induction l with
  | nil => simpa [putStep] using h
  | cons r rest ih =>
    unfold putStep at h
    split at h
    · simp at h ⊢; tauto
    split at h
    · simpa using h
    · simp at h ⊢; tauto

theorem putStep_pairwise {p : StepRec} {l : List StepRec} (h1 : (l.map fun r => r.berth).Pairwise (· < ·)) :
    ((putStep p l).map fun r => r.berth).Pairwise (· < ·) := by
  induction l with
  | nil => simp [putStep]
  | cons q rest ih =>
    rw [List.map_cons, List.pairwise_cons] at h1
    obtain ⟨hq, hr⟩ := h1
    unfold putStep
    split
    next e => rw [List.map_cons, List.pairwise_cons, ← e]; exact ⟨hq, hr⟩
    next hne =>
      split
      next hlt =>
        rw [List.map_cons, List.pairwise_cons, List.map_cons, List.pairwise_cons]
        refine ⟨fun n hn => ?_, hq, hr⟩
        obtain rfl | hn := List.mem_cons.mp hn
        · exact hlt
        · exact Nat.lt_trans hlt (hq n hn)
      next hge =>
        rw [List.map_cons, List.pairwise_cons]
        refine ⟨fun n hn => ?_, ih hr⟩
        obtain ⟨r, hrm, rfl⟩ := List.mem_map.mp hn
        obtain rfl | hrm := mem_putStep hrm
        · omega
        · exact hq _ (List.mem_map_of_mem hrm)

theorem findStep_berth {l : List StepRec} {r : StepRec} (h : findStep b l = some r) : r.berth = b ∧ r ∈ l :=
  ⟨by simpa using List.find?_some h, List.mem_of_find?_eq_some h⟩

theorem findPeer_berth {l : List Peer} {p : Peer} (h : findPeer b l = some p) : p.berth = b ∧ p ∈ l :=
  ⟨by simpa using List.find?_some h, List.mem_of_find?_eq_some h⟩

/-- The record that a change of berth `b` starts from is one of that berth. -/
theorem findStep_getD_berth (b : Nat) (l : List StepRec) : ((findStep b l).getD ⟨b, none, none⟩).berth = b := by
  cases h : findStep b l with
  | none => rfl
  | some r => exact (findStep_berth h).1

theorem StepsOrdered.updateStep {l : List StepRec} (h : StepsOrdered own l) (hb : PeerBerth own b)
    {f : StepRec → StepRec} (hf : ∀ r, (f r).berth = r.berth) : StepsOrdered own (updateStep b f l) := by
  refine ⟨(putStep_pairwise h.1).sublist (List.filter_sublist.map _), fun r hr => ?_⟩
  obtain ⟨hm, hk⟩ := List.mem_filter.mp hr
  have hk' : r.bid.isSome = true ∨ r.hold.isSome = true := by simpa using hk
  obtain rfl | hm := mem_putStep hm
  · rw [hf, findStep_getD_berth]
    exact ⟨hb.1, hb.2.1, hb.2.2, by simpa [hf] using hk⟩
  · obtain ⟨h1, h2, h3, -⟩ := h.2 r hm
    exact ⟨h1, h2, h3, hk'⟩

end Tables

/-! ### The bus controller in order -/

section BusController

variable {t : Tbc} {s : State}

/-- A frame of this body is among the queued ones, or it is one that BUS-LOST withdraws. -/
theorem Tbc.Ordered.of_queue {u : Tbc} (h : t.Ordered) (hc : u.can = t.can) (htx : u.txErr = t.txErr)
    (hrx : u.rxErr = t.rxErr) (ha : u.attempt = t.attempt) (hq : u.queue.map (fun f => f.body) = t.queue.map fun f =>
      f.body) :
    u.Ordered := by
  have hl : u.queue.length = t.queue.length := by simpa using congrArg List.length hq
  have hs (q : List TxFrame) : (q.filter fun f => f.body.isStatus).length =
      ((q.map fun f => f.body).filter TxBody.isStatus).length := by
    rw [List.filter_map, List.length_map]; rfl
  refine ⟨htx ▸ h.txErr_le, hrx ▸ h.rxErr_le, hl ▸ h.queue_le, ?_, by rw [ha, hc]; exact h.attempt_onBus, fun a hu =>
    ?_⟩
  · rw [hs, hq, ← hs]; exact h.one_status
  · refine (h.attempt_queued a (ha ▸ hu)).imp id fun ⟨f, hf, e⟩ => ?_
    have : a.body ∈ u.queue.map fun f => f.body := hq ▸ e ▸ List.mem_map_of_mem hf
    exact (List.mem_map.mp this)

/-- No frame in an attempt. -/
theorem Tbc.Ordered.idle (htx : t.txErr ≤ 256) (hrx : t.rxErr ≤ 255) (hq : t.queue.length ≤ 24)
    (hs : (t.queue.filter fun f => f.body.isStatus).length ≤ 1) (ha : t.attempt = none) : t.Ordered :=
  ⟨htx, hrx, hq, hs, by simp [ha], by simp [ha]⟩

theorem Tbc.order_ordered (b : TxBody) (h : t.Ordered) : (t.order b).Ordered := by
  obtain e | ⟨e, -, hroom, hs⟩ := Tbc.order_cases b t
  · rw [e]; exact h
  · rw [e]
    refine { h with queue_le := ?_, one_status := ?_, attempt_queued := fun a ha => ?_ }
    · simpa using Nat.succ_le_of_lt hroom
    · show ((t.queue ++ [(⟨b, some 1000⟩ : TxFrame)]).filter fun f => f.body.isStatus).length ≤ 1
      rw [List.filter_append]
      cases hb : b.isStatus with
      | false => simpa [hb] using h.one_status
      | true =>
        have hf := hs hb
        rw [List.any_eq_false] at hf
        rw [List.filter_eq_nil_iff.mpr hf]
        simp [hb]
    · exact (h.attempt_queued a ha).imp id fun ⟨f, hf, e⟩ => ⟨f, List.mem_append_left _ hf, e⟩

theorem Tbc.order_peers (b : TxBody) (u : Tbc) : (u.order b).peers = u.peers := by
  obtain e | ⟨e, -⟩ := Tbc.order_cases b u <;> rw [e]

theorem Tbc.reply_peers (segs : List (List Byte)) (t : Tbc) : (t.reply segs).peers = t.peers := by
  unfold Tbc.reply
  induction segs generalizing t with
  | nil => rfl
  | cons d rest ih => exact (ih _).trans (Tbc.order_peers _ t)

theorem Tbc.reply_ordered (segs : List (List Byte)) (h : t.Ordered) : (t.reply segs).Ordered := by
  unfold Tbc.reply
  induction segs generalizing t with
  | nil => exact h
  | cons d rest ih => exact ih (Tbc.order_ordered _ h)

theorem Tbc.heard_ordered (h : t.Ordered) : t.heard.Ordered :=
  .idle h.txErr_le (Nat.le_trans (Nat.sub_le _ _) h.rxErr_le) h.queue_le h.one_status rfl

theorem Tbc.error_ordered (e : BusError) (h : t.Ordered) : (t.error e).Ordered := by
  unfold Tbc.error
  split
  · simp only
    split
    · exact .idle (Nat.min_le_left _ _) h.rxErr_le h.queue_le h.one_status rfl
    · refine .idle ?_ h.rxErr_le h.queue_le h.one_status rfl
      show (if _ then t.txErr else min 256 (t.txErr + 8)) ≤ 256
      split
      · exact h.txErr_le
      · exact Nat.min_le_left _ _
    · exact .idle h.txErr_le (Nat.min_le_left _ _) h.queue_le h.one_status rfl
  · exact h

theorem Tbc.recovered_ordered (h : t.Ordered) : t.recovered.Ordered := by
  unfold Tbc.recovered
  split
  · exact { h with txErr_le := Nat.zero_le _, rxErr_le := Nat.zero_le _, attempt_onBus := fun _ => rfl }
  · exact h

theorem dropKind_sublist (k : BusKind) (q : List TxFrame) : List.Sublist (dropKind k q) q := by
  induction q with
  | nil => exact List.Sublist.refl _
  | cons f rest ih =>
    unfold dropKind
    split
    · exact List.sublist_cons_self _ _
    · exact ih.cons_cons f

theorem Tbc.completed_ordered (a : Attempt) (i : Nat) (h : t.Ordered) : (t.completed a i).Ordered := by
  have sub := dropKind_sublist a.body.kind t.queue
  have hu : (Tbc.judged
      { t with
        queue := (dropKind a.body.kind t.queue).map fun f => { f with timer := some 1000 }
        txErr := t.txErr - 1, attempt := none, busLost := false, lastSent := some ⟨i, a.data⟩ }).Ordered := by
    refine .idle (Nat.le_trans (Nat.sub_le _ _) h.txErr_le) h.rxErr_le ?_ ?_ rfl
    · exact Nat.le_trans (by simpa [Tbc.judged] using sub.length_le) h.queue_le
    · simp only [Tbc.judged, List.filter_map, List.length_map]
      exact Nat.le_trans (sub.filter _).length_le h.one_status
  unfold Tbc.completed
  simp only
  split
  · exact Tbc.order_ordered _ hu
  · exact hu

theorem restTimer_bodies (n : Nat) (q : List TxFrame) : (restTimer n q).map (fun f => f.body) = q.map fun f => f.body :=
    by
  induction q with
  | nil => rfl
  | cons f rest ih =>
    unfold restTimer
    split
    · rfl
    · rw [List.map_cons, List.map_cons, ih]

theorem Tbc.lose_ordered (h : t.Ordered) : t.lose.Ordered := by
  have sub : List.Sublist (t.queue.filter fun f => !f.body.bidding) t.queue := List.filter_sublist
  refine { h with
    queue_le := Nat.le_trans sub.length_le h.queue_le
    one_status := Nat.le_trans (sub.filter _).length_le h.one_status
    attempt_queued := fun a ha => ?_ }
  obtain k | ⟨f, hf, e⟩ := h.attempt_queued a ha
  · exact .inl k
  · cases hb : a.body.bidding with
    | true => exact .inl rfl
    | false => exact .inr ⟨f, List.mem_filter.mpr ⟨hf, by simp [e, hb]⟩, e⟩

theorem offeredFrame_mem {q : List TxFrame} {f : TxFrame} (h : offeredFrame q = some f) : f ∈ q := by
  induction q with
  | nil => exact absurd h (by simp [offeredFrame])
  | cons g rest ih =>
    unfold offeredFrame at h
    split at h
    · cases h; exact List.mem_cons_self ..
    next k hk =>
      split at h
      · cases h; exact List.mem_cons_self ..
      · cases h; exact List.mem_cons_of_mem _ (ih hk)

theorem Tbc.begin_ordered (h : s.tbc.Ordered) (hb : s.tbc.can.onBus = true) : (Tbc.begin s).tbc.Ordered := by
  unfold Tbc.begin
  split
  next f hf =>
    exact { h with
      attempt_onBus := fun _ => hb
      attempt_queued := fun a ha => by cases ha; exact .inr ⟨f, offeredFrame_mem hf, rfl⟩ }
  · exact h

end BusController

/-! ### What the two blocks keep together -/

/-- R128, R142, R143: nothing is filed, queued or attempted. -/
def State.BusSilent (s : State) : Prop :=
  (s.tbc.can = .off ∨ s.tbc.can = .listening) ∧ s.tbc.peers = [] ∧ s.tbc.queue = [] ∧ s.tbc.attempt = none ∧
    s.clu.stepList = []

/-- The bus controller, the peer table and the step list in order. -/
structure State.BusFiled (s : State) : Prop where
  tbc : s.tbc.Ordered
  peers : PeersOrdered s.own s.tbc.peers
  steps : StepsOrdered s.own s.clu.stepList

/-- What O57 says of the bus. -/
def State.BusOrdered (s : State) : Prop := s.BusQuiet ∧ s.BusFiled

section Bus

variable {s t : State} {b : Nat}

theorem State.BusQuiet.of_silent (h : s.BusQuiet) (hc : t.cfl = s.cfl) (hs : s.BusSilent → t.BusSilent) : t.BusQuiet :=
    by
  unfold State.BusQuiet State.running State.figs at *
  rw [hc]
  exact fun k => hs (h k)

theorem State.BusSilent.of_eq (h : s.BusSilent) (ht : t.tbc = s.tbc) (hl : t.clu.stepList = s.clu.stepList) :
    t.BusSilent := by
  unfold State.BusSilent at *; rwa [ht, hl]

theorem State.BusFiled.of_eq (h : s.BusFiled) (ht : t.tbc = s.tbc) (hl : t.clu.stepList = s.clu.stepList)
    (hc : t.cfl = s.cfl) : t.BusFiled := by
  obtain ⟨h1, h2, h3⟩ := h
  unfold State.own at h2 h3
  constructor <;> simpa only [ht, hl, State.own, hc]

theorem State.BusOrdered.of_eq (h : s.BusOrdered) (ht : t.tbc = s.tbc) (hl : t.clu.stepList = s.clu.stepList)
    (hc : t.cfl = s.cfl) : t.BusOrdered :=
  ⟨h.1.of_silent hc (·.of_eq ht hl), h.2.of_eq ht hl hc⟩

/-- Behind a successful load and outside solitary mode, the bus is not required to be quiet. -/
theorem State.BusQuiet.of_onBus (h : s.BusQuiet) (hb : s.tbc.can.onBus = true) (hc : t.cfl = s.cfl) : t.BusQuiet := by
  have : ¬s.BusSilent := fun ⟨k, _⟩ => by obtain k | k := k <;> simp [k, CanState.onBus] at hb
  refine h.of_silent hc fun k => absurd k this

/-! #### The tables -/

theorem State.BusFiled.setPeers (h : s.BusFiled) {l : List Peer} (hl : PeersOrdered s.own l) :
    (s.setTbc { s.tbc with peers := l }).BusFiled := ⟨{ h.tbc with }, hl, h.steps⟩

theorem State.BusFiled.setTbc (h : s.BusFiled) {u : Tbc} (hu : u.Ordered) (hp : u.peers = s.tbc.peers) :
    (s.setTbc u).BusFiled := ⟨hu, by show PeersOrdered s.own u.peers; rw [hp]; exact h.peers, h.steps⟩

theorem State.withEntry_filed (h : s.BusFiled) (hb : PeerBerth s.own b) : (s.withEntry b).BusFiled := by
  unfold State.withEntry
  split
  · exact h
  · exact ⟨{ h.tbc with }, h.peers.setPeer hb, h.steps.updateStep (f := fun r => { r with hold := none }) hb fun _ =>
      rfl⟩

theorem State.withEntry_own (b : Nat) (s : State) : (s.withEntry b).own = s.own :=
  congrArg Cfl.berth ((State.withEntry_within b s).cfl rfl)

theorem Peer.endBid_berth (p : Peer) : p.endBid.berth = p.berth := by
  unfold Peer.endBid
  (repeat' split) <;> rfl

theorem State.endHold_filed (h : s.BusFiled) (hb : PeerBerth s.own b) : (s.endHold b).BusFiled :=
  ⟨{ h.tbc with }, h.peers.updatePeer fun _ => rfl, h.steps.updateStep (f := fun r =>
    { r with hold := none }) hb fun _ => rfl⟩

theorem State.dropStepBid_filed (h : s.BusFiled) (hb : PeerBerth s.own b) : (s.dropStepBid b).BusFiled :=
  ⟨h.tbc, h.peers, h.steps.updateStep (f := fun r => { r with bid := none }) hb fun _ => rfl⟩

theorem State.recordHold_filed (h : s.BusFiled) (hb : PeerBerth s.own b) : (s.recordHold b).BusFiled := by
  unfold State.recordHold
  split
  · exact h.setPeers (h.peers.updatePeer fun _ => rfl)
  · exact ⟨h.tbc, h.peers, h.steps.updateStep (f := fun r => { r with hold := some s.csq.clockMs }) hb fun _ => rfl⟩

theorem State.markObjected_filed (n : Nat) (h : s.BusFiled) : (s.markObjected b n).BusFiled := by
  refine ⟨{ h.tbc with }, h.peers.updatePeer fun _ => rfl, h.steps.map fun r => ?_⟩
  split
  · exact ⟨rfl, by simp [StepRec.objected], rfl⟩
  · exact ⟨rfl, rfl, rfl⟩

/-! #### Frames -/

theorem Clu.onStatus_filed (h : s.BusFiled) (hb : PeerBerth s.own b) : (Clu.onStatus b s).1.BusFiled := by
  unfold Clu.onStatus
  split
  · exact State.endHold_filed h hb
  · exact h

theorem Tbc.onStatus_filed (d : List Byte) (h : s.BusFiled) (hb : PeerBerth s.own b) :
    (Tbc.onStatus d b s).1.BusFiled := by
  have hw := State.withEntry_filed h hb
  have hf : (s.fileStatus b d).BusFiled := hw.setPeers (hw.peers.updatePeer fun _ => rfl)
  exact Clu.onStatus_filed hf (State.withEntry_own b s ▸ hb)

theorem Tbc.onBid_filed (d : List Byte) (h : s.BusFiled) (hb : PeerBerth s.own b) : (Tbc.onBid d b s).1.BusFiled := by
  have hw := State.withEntry_filed h hb
  exact hw.setPeers (hw.peers.updatePeer fun p => Peer.endBid_berth p)

theorem Clu.onObject_filed (n m : Nat) (h : s.BusFiled) : (Clu.onObject n m s).1.BusFiled := by
  unfold Clu.onObject
  split
  · split
    · split <;> exact ⟨h.tbc, h.peers, h.steps⟩
    · exact h
  · exact State.markObjected_filed m h

theorem Clu.onStepBid_filed (n : Nat) (h : s.BusFiled) (hb : PeerBerth s.own b) :
    (Clu.onStepBid b n s).1.BusFiled := ⟨h.tbc, h.peers, h.steps.updateStep (f := fun r =>
      { r with bid := some ⟨n, 250, false⟩ }) hb fun _ => rfl⟩

theorem Clu.onStepFree_filed (h : s.BusFiled) (hb : PeerBerth s.own b) : (Clu.onStepFree b s).1.BusFiled := by
  unfold Clu.onStepFree
  split
  · exact State.endHold_filed h hb
  split
  · exact State.dropStepBid_filed h hb
  · exact h

theorem Tbc.query_filed (item : Nat) (d : List Byte) {f : State → Out} (hf : ∀ s, OnlyCsq s (f s).1) (h : s.BusFiled) :
    (Tbc.query item d f s).1.BusFiled := by
  unfold Tbc.query
  split
  · have hr : (s.setTbc (s.tbc.reply (segments item d))).BusFiled :=
      h.setTbc (Tbc.reply_ordered _ h.tbc) (Tbc.reply_peers _ _)
    have w := (hf (s.setTbc (s.tbc.reply (segments item d)))).within
    exact hr.of_eq (w.tbc rfl) (by rw [w.clu rfl]) (w.cfl rfl)
  · exact h

theorem Tbc.onQuery_filed (d : List Byte) (h : s.BusFiled) : (Tbc.onQuery d s).1.BusFiled := by
  unfold Tbc.onQuery
  simp only
  split
  · exact Tbc.query_filed _ _ (fun _ => rfl) h
  · exact Tbc.query_filed _ _ (fun _ => rfl) h
  · exact Tbc.query_filed _ _ (fun _ => rfl) h
  · exact Tbc.query_filed _ _ (fun _ => rfl) h
  · exact h

theorem Tbc.forOwn_filed (d : List Byte) {f : State → Out} (hf : s.BusFiled → (f s).1.BusFiled) (h : s.BusFiled) :
    (Tbc.forOwn d f s).1.BusFiled := by
  unfold Tbc.forOwn
  split
  · exact hf h
  · exact h

theorem Tbc.onControl_filed (d : List Byte) (h : s.BusFiled) : (Tbc.onControl d s).1.BusFiled := by
  unfold Tbc.onControl
  split
  · exact ⟨h.tbc, h.peers, h.steps⟩
  · exact h.setPeers h.peers.erasePeer
  · exact h

/-- R130: a frame that passes the tests keeps the tables in order. -/
theorem Tbc.deal_filed {kind : BusKind} (d : List Byte) (h : s.BusFiled) (hb : b ≤ 16) (ho : b ≠ s.own)
    (hs : kind.sentBy b = true) : (Tbc.deal kind b d s).1.BusFiled := by
  have peer (k : (b != 0) = true) : PeerBerth s.own b := ⟨by simp at k; omega, hb, ho⟩
  cases kind with
  | status => exact Tbc.onStatus_filed d h (peer hs)
  | bid => exact Tbc.onBid_filed d h (peer hs)
  | object => exact Clu.onObject_filed _ _ h
  | stepBid => exact Clu.onStepBid_filed _ h (peer hs)
  | stepFree => exact Clu.onStepFree_filed h (peer hs)
  | query => exact Tbc.forOwn_filed d (Tbc.onQuery_filed d) h
  | ackTrip =>
    have w := Tbc.forOwn_within d (fun s =>
      (Ptu.acknowledge_only (sourcesOf (BitVec.ofNat 16 (fieldNat d 1 2))) s).within) s
    exact h.of_eq (w.tbc rfl) (congrArg Clu.stepList (w.clu rfl)) (w.cfl rfl)
  | control => exact Tbc.forOwn_filed d (Tbc.onControl_filed d) h
  | reply => exact h

theorem Tbc.receive_busOrdered {f : State → Out} (h : s.BusOrdered) (hf : s.heard.BusFiled → (f s.heard).1.BusFiled)
    (hc : (f s.heard).1.cfl = s.cfl) : (Tbc.receive f s).1.BusOrdered := by
  unfold Tbc.receive
  split
  next hb => exact ⟨h.1.of_onBus hb hc, hf (h.2.setTbc (Tbc.heard_ordered h.2.tbc) rfl)⟩
  · exact h

theorem Tbc.frame_busOrdered (i : BitVec 11) (d : List Byte) (h : s.BusOrdered) : (Tbc.frame i d s).1.BusOrdered := by
  cases hb : s.tbc.can.onBus with
  | false => rwa [Tbc.frame_of_offBus i d hb]
  | true =>
    have hh : s.heard.BusFiled := h.2.setTbc (Tbc.heard_ordered h.2.tbc) rfl
    refine ⟨h.1.of_onBus hb ((Tbc.frame_within i d s).cfl rfl), ?_⟩
    rw [Tbc.frame_of_onBus i d hb]
    obtain ⟨-, e⟩ | ⟨-, e⟩ | ⟨kind, b, hr, e⟩ := Tbc.act_cases i d s.heard <;> rw [e]
    · exact hh
    · unfold Tbc.ownNumber
      split
      · exact hh
      · exact hh.setTbc { hh.tbc with } rfl
    · obtain ⟨-, -, h16, hown, hsent, -⟩ := (reception_passed _ _ _ _ _).mp hr
      exact Tbc.deal_filed d hh h16 hown hsent

/-! #### The other answers of the two blocks -/

/-- An order, where the interface sends nothing, is not taken. -/
theorem Tbc.order_of_not_sends (b : TxBody) {u : Tbc} (h : u.can = .off ∨ u.can = .listening) : u.order b = u := by
  unfold Tbc.order
  obtain h | h := h <;> simp [h, CanState.sends]

theorem Tbc.orderFrame_busOrdered (x : TxBody) (h : s.BusOrdered) : (Tbc.orderFrame x s).1.BusOrdered := by
  refine ⟨h.1.of_silent rfl fun k => ?_, h.2.setTbc (Tbc.order_ordered x h.2.tbc) (Tbc.order_peers x _)⟩
  show (s.setTbc (s.tbc.order x)).BusSilent
  rwa [Tbc.order_of_not_sends x k.1]

theorem Tbc.statusChanged_busOrdered (h : s.BusOrdered) : (Tbc.statusChanged s).1.BusOrdered := by
  obtain e | ⟨a, ha, -, e⟩ := Tbc.statusChanged_cases s
  · rw [e]; exact Tbc.orderFrame_busOrdered _ h
  · rw [e]
    refine ⟨h.1.of_silent rfl fun ⟨_, _, _, k, _⟩ => absurd ha (by simp [k]), h.2.setTbc ?_ rfl⟩
    exact { h.2.tbc with
      attempt_onBus := fun _ => h.2.tbc.attempt_onBus (by simp [ha])
      attempt_queued := fun a' ha' => by cases ha'; exact h.2.tbc.attempt_queued a ha }

theorem Tbc.complete_busOrdered (i : Nat) (h : s.BusOrdered) : (Tbc.complete i s).1.BusOrdered := by
  unfold Tbc.complete
  split
  · exact h
  next a ha =>
    split
    · refine ⟨h.1.of_silent rfl fun ⟨_, _, _, k, _⟩ => absurd ha (by simp [k]),
        h.2.setTbc (Tbc.completed_ordered a i h.2.tbc) ?_⟩
      unfold Tbc.completed
      simp only
      split
      · rw [Tbc.order_peers]; rfl
      · rfl
    · exact h

theorem Tbc.periodExpired_busOrdered (h : s.BusOrdered) : (Tbc.periodExpired s).1.BusOrdered := by
  unfold Tbc.periodExpired
  split
  · refine ⟨h.1.of_silent rfl fun k => ?_, h.2.setTbc (Tbc.order_ordered _ { h.2.tbc with }) (Tbc.order_peers _ _)⟩
    show (s.setTbc (Tbc.order .status { s.tbc with period := some 1000 })).BusSilent
    have e := Tbc.order_of_not_sends .status (u := { s.tbc with period := some 1000 }) k.1
    rw [e]
    exact k
  · exact h

theorem Tbc.queueExpired_busOrdered (h : s.BusOrdered) : (Tbc.queueExpired s).1.BusOrdered := by
  unfold Tbc.queueExpired
  split
  · exact h
  next n hn =>
    have silent {u : State} (k : s.BusSilent) : u.BusSilent := by
      rw [k.2.2.1] at hn; exact absurd hn (by simp [leastTimer])
    have hr : ({ s.tbc with queue := restTimer n s.tbc.queue } : Tbc).Ordered :=
      h.2.tbc.of_queue rfl rfl rfl rfl (restTimer_bodies n _)
    simp only
    split
    · exact ⟨h.1.of_silent rfl silent, h.2.setTbc hr rfl⟩
    · exact ⟨h.1.of_silent rfl silent, h.2.setTbc (Tbc.lose_ordered hr) rfl⟩

theorem Tbc.error_busOrdered (e : BusError) (h : s.BusOrdered) : (s.setTbc (s.tbc.error e)).BusOrdered := by
  refine ⟨h.1.of_silent rfl fun k => ?_, h.2.setTbc (Tbc.error_ordered e h.2.tbc) ?_⟩
  · have : s.tbc.error e = s.tbc := by
      unfold Tbc.error
      obtain k | k := k.1 <;> simp [k, CanState.onBus]
    rwa [this]
  · unfold Tbc.error
    split
    · simp only; split <;> rfl
    · rfl

theorem Tbc.recovered_busOrdered (h : s.BusOrdered) : (s.setTbc s.tbc.recovered).BusOrdered := by
  refine ⟨h.1.of_silent rfl fun k => ?_, h.2.setTbc (Tbc.recovered_ordered h.2.tbc) ?_⟩
  · have : s.tbc.recovered = s.tbc := by
      unfold Tbc.recovered
      obtain k | k := k.1 <;> simp [k]
    rwa [this]
  · unfold Tbc.recovered
    split <;> rfl

/-- A change of the entries that keeps their berths. -/
theorem State.updatePeer_busOrdered (h : s.BusOrdered) {f : Peer → Peer} (hf : ∀ p, (f p).berth = p.berth) :
    (s.setTbc { s.tbc with peers := updatePeer b f s.tbc.peers }).BusOrdered :=
  ⟨h.1.of_silent rfl fun ⟨k1, k2, k3, k4, k5⟩ => ⟨k1, by simp [k2, updatePeer], k3, k4, k5⟩,
    h.2.setPeers (h.2.peers.updatePeer hf)⟩

theorem Clu.peerWindowEnd_busOrdered (h : s.BusOrdered) : (Clu.peerWindowEnd b s).1.BusOrdered := by
  unfold Clu.peerWindowEnd
  split
  · exact State.updatePeer_busOrdered h Peer.endBid_berth
  · exact h

theorem StepsOrdered.berth {own : Nat} {l : List StepRec} (h : StepsOrdered own l) {r : StepRec}
    (hr : findStep b l = some r) :
    PeerBerth own b := by
  obtain ⟨rfl, hm⟩ := findStep_berth hr
  obtain ⟨h1, h2, h3, -⟩ := h.2 r hm
  exact ⟨h1, h2, h3⟩

theorem PeersOrdered.berth {own : Nat} {l : List Peer} (h : PeersOrdered own l) {p : Peer}
    (hp : findPeer b l = some p) :
    PeerBerth own b := by
  obtain ⟨rfl, hm⟩ := findPeer_berth hp
  exact h.2 p hm

theorem Clu.stepWindowEnd_busOrdered (h : s.BusOrdered) : (Clu.stepWindowEnd b s).1.BusOrdered := by
  unfold Clu.stepWindowEnd
  split
  · exact h
  next r hr =>
    obtain ⟨q, hq, -⟩ := Option.bind_eq_some_iff.mp hr
    have hb := h.2.steps.berth hq
    have hd := State.dropStepBid_filed h.2 hb
    have hc : (if r.objected then s.dropStepBid b else (s.dropStepBid b).recordHold b).cfl = s.cfl := by
      split
      · rfl
      · exact (State.recordHold_within b _).cfl rfl
    refine ⟨h.1.of_silent hc fun ⟨_, _, _, _, k⟩ => ?_, ?_⟩
    · rw [k] at hq; exact absurd hq (by simp [findStep])
    · show (if _ then _ else _ : State).BusFiled
      split
      · exact hd
      · exact State.recordHold_filed hd hb

theorem Clu.holdExpired_busOrdered (h : s.BusOrdered) : (Clu.holdExpired b s).1.BusOrdered := by
  unfold Clu.holdExpired
  split
  next hr =>
    have hb : PeerBerth s.own b ∧ ¬s.BusSilent := by
      unfold State.holdRecorded at hr
      rw [Bool.or_eq_true] at hr
      obtain k | k := hr
      · cases hp : findPeer b s.tbc.peers with
        | none => simp [hp] at k
        | some p => exact ⟨h.2.peers.berth hp, fun ⟨_, e, _⟩ => by simp [e, findPeer] at hp⟩
      · cases hp : findStep b s.clu.stepList with
        | none => simp [hp] at k
        | some p => exact ⟨h.2.steps.berth hp, fun ⟨_, _, _, _, e⟩ => by simp [e, findStep] at hp⟩
    exact ⟨h.1.of_silent rfl fun k => absurd k hb.2, State.endHold_filed h.2 hb.1⟩
  · exact h

theorem State.markObjected_busOrdered (n : Nat) (h : s.BusOrdered) : (s.markObjected b n).BusOrdered :=
  ⟨h.1.of_silent rfl fun ⟨k1, k2, k3, k4, k5⟩ =>
    ⟨k1, by simp [State.markObjected, k2, updatePeer], k3, k4, by simp [State.markObjected, k5]⟩,
    State.markObjected_filed n h.2⟩

end Bus

/-! #### The step list at the claim unit -/

section StepList

variable {s : State}

theorem Clu.endBid_stepList (f : OwnKind → Bool) (c : Clu) : (c.endBid f).1.stepList = c.stepList := by
  unfold Clu.endBid
  (repeat' split) <;> rfl

theorem Clu.openWindow_stepList (n : Nat) (b : Bool) (c : Clu) : (c.openWindow n b).stepList = c.stepList := by
  unfold Clu.openWindow
  (repeat' split) <;> rfl

theorem Clu.committed_stepList (k : OwnKind) (n : Nat) (c : Clu) : (c.committed k n).stepList = c.stepList := by
  unfold Clu.committed
  simp only
  split <;> rfl

theorem Clu.takeWish_stepList (k : OwnKind) (c : Clu) : (c.takeWish k).stepList = c.stepList := by
  unfold Clu.takeWish
  split <;> rfl

theorem Clu.refreshFloor_stepList (n : Nat) (c : Clu) : (c.refreshFloor n).stepList = c.stepList := by
  unfold Clu.refreshFloor
  split <;> rfl

theorem Clu.lowered_stepList (c : Clu) : c.lowered.stepList = c.stepList := by
  unfold Clu.lowered
  split <;> rfl

theorem Clu.lower_stepList (k n : Nat) (c : Clu) : (c.lower k n).stepList = c.stepList := by
  unfold Clu.lower
  (repeat' split) <;> rfl

theorem Clu.makeBid_stepList (k : OwnKind) (n : Nat) (s : State) :
    (Clu.makeBid k n s).1.clu.stepList = s.clu.stepList := by
  unfold Clu.makeBid
  simp only
  split
  · exact (Clu.committed_stepList k n _).trans (Clu.takeWish_stepList k _)
  · exact Clu.takeWish_stepList k _

theorem Clu.attempt_stepList (s : State) : (Clu.attempt s).1.clu.stepList = s.clu.stepList := by
  have hr := Clu.refreshFloor_stepList s.shc.fr s.clu
  unfold Clu.attempt
  rw [Out.andThen_fst]
  split
  · exact hr
  split
  · split
    · exact (Clu.makeBid_stepList _ _ _).trans hr
    · exact hr
  · exact hr

theorem Clu.decide_stepList (d : Decision) (s : State) : (Clu.decide d s).1.clu.stepList = s.clu.stepList := by
  unfold Clu.decide
  split
  · rfl
  · rfl
  · split <;> rfl
  · split
    · rfl
    · exact Clu.lower_stepList _ _ _

theorem Clu.windowExpired_stepList (s : State) : (Clu.windowExpired s).1.clu.stepList = s.clu.stepList := by
  unfold Clu.windowExpired
  (repeat' split) <;> first | rfl | exact Clu.committed_stepList _ _ _

theorem Clu.onSet_stepList (r : ReadingSet) (s : State) : (Clu.onSet r s).1.clu.stepList = s.clu.stepList := by
  unfold Clu.onSet
  simp only
  split
  · rfl
  · split
    · split
      · exact Clu.lowered_stepList _
      · rfl
    · rfl

end StepList

/-- Of the hand-offs, the completion of an own OBJECT alone reaches the step list. -/
theorem handle_stepList {x : Handoff} (hx : ∀ b, x ≠ .cluCompleted b) (s : State) :
    (handle x s).1.clu.stepList = s.clu.stepList := by
  by_cases hr : x.reach.contains .clu = false
  · rw [(handle_within x s).clu hr]
  rw [Bool.not_eq_false] at hr
  cases x with
  | cluCompleted b => exact absurd rfl (hx b)
  | cluFloor | cluStep => rfl
  | cluWithdrawFloor => exact Clu.endBid_stepList (fun k => k == .claim .floor) s.clu
  | cluWithdrawStep => exact Clu.endBid_stepList (fun k => k == .step) s.clu
  | cluFreeStep =>
    show (Clu.freeStep s).1.clu.stepList = _
    unfold Clu.freeStep
    split <;> rfl
  | cluRelease =>
    show (Clu.release s).1.clu.stepList = _
    unfold Clu.release
    split
    · rfl
    · exact Clu.endBid_stepList OwnKind.isClaim s.clu
  | cluAttempt => exact Clu.attempt_stepList s
  | cluDecision d => exact Clu.decide_stepList d s
  | cluBusLost | cluDuplicate => exact Clu.endBid_stepList (fun _ => true) s.clu
  | _ => exact absurd hr Bool.false_ne_true

theorem handle_busOrdered (x : Handoff) (s : State) (h : s.BusOrdered) : (handle x s).1.BusOrdered := by
  cases x with
  | tbcOrder b => exact Tbc.orderFrame_busOrdered b h
  | tbcStatus => exact Tbc.statusChanged_busOrdered h
  | cluCompleted b =>
    show (Clu.onCompleted b s).1.BusOrdered
    unfold Clu.onCompleted
    split
    · exact h.of_eq rfl (Clu.openWindow_stepList _ _ _) rfl
    · exact h.of_eq rfl (Clu.openWindow_stepList _ _ _) rfl
    · exact State.markObjected_busOrdered _ h
    all_goals exact h
  | _ => exact h.of_eq ((handle_within _ s).tbc rfl) (handle_stepList (fun _ => by simp) s) (handle_kept _ s).cfl

theorem due_busOrdered {s : State} {o : Out} (ho : s.due = some o) (h : s.BusOrdered) : o.1.BusOrdered := by
  rcases due_cases ho with k | k | k | k | k
  · have w := (Esd.due_only s o k).within
    exact h.of_eq (w.tbc rfl) (congrArg Clu.stepList (w.clu rfl)) (w.cfl rfl)
  · rw [Psm.due_eq k]
    have w := (Psm.carryOutRelease_only s).within
    exact h.of_eq (w.tbc rfl) (congrArg Clu.stepList (w.clu rfl)) (w.cfl rfl)
  · rw [Esd.ownRequest_eq k]
    have w := (Esd.closeRequest_only s).within
    exact h.of_eq (w.tbc rfl) (congrArg Clu.stepList (w.clu rfl)) (w.cfl rfl)
  · have w := (Csq.due_only s o k).within
    exact h.of_eq (w.tbc rfl) (congrArg Clu.stepList (w.clu rfl)) (w.cfl rfl)
  · rw [Tbc.due_eq k]
    unfold Tbc.due at k
    split at k
    next ha =>
      have hb : s.tbc.can.onBus = true := by
        simp only [Tbc.attemptDue, Bool.and_eq_true] at ha; exact ha.1.1
      have hp : (Tbc.begin s).tbc.peers = s.tbc.peers := by unfold Tbc.begin; split <;> rfl
      have hl : (Tbc.begin s).clu = s.clu := by unfold Tbc.begin; split <;> rfl
      have hc : (Tbc.begin s).cfl = s.cfl := by unfold Tbc.begin; split <;> rfl
      refine ⟨h.1.of_onBus hb hc, Tbc.begin_ordered h.2.tbc hb, ?_, ?_⟩
      · rw [hp, State.own, hc]; exact h.2.peers
      · rw [hl, State.own, hc]; exact h.2.steps
    · exact absurd k (by simp)

theorem Tbc.atLoad_ordered (b : Bool) : (Tbc.atLoad b).Ordered := by
  unfold Tbc.atLoad
  split
  · exact .idle (Nat.zero_le _) (Nat.zero_le _) (Nat.zero_le _) (Nat.zero_le _) rfl
  · exact Tbc.order_ordered _ (.idle (Nat.zero_le _) (Nat.zero_le _) (Nat.zero_le _) (Nat.zero_le _) rfl)

theorem Tbc.atLoad_peers (b : Bool) : (Tbc.atLoad b).peers = [] := by
  cases b <;> rfl

theorem State.loadEnd_busOrdered (d : List Byte) {s : State} (h : s.BusOrdered) : (s.loadEnd d).1.BusOrdered := by
  unfold State.loadEnd
  split
  next hs =>
    obtain ⟨k1, k2, k3, k4, k5⟩ := h.1 (.inl (by rw [State.running, eq_of_beq hs]; rfl))
    split
    · refine ⟨fun k => ?_, Tbc.atLoad_ordered _, ?_, h.2.steps⟩
      · obtain k | k := k
        · exact absurd k Bool.true_eq_false_eq_False
        · have e : (s.loaded (Figures.ofImage d)).1.tbc = { Tbc.atReset with can := .listening } := by
            show Tbc.atLoad (Figures.ofImage d).solitary = _
            rw [show (Figures.ofImage d).solitary = true from k]; rfl
          rw [e]
          exact ⟨.inr rfl, rfl, rfl, rfl, k5⟩
      · show PeersOrdered _ (Tbc.atLoad _).peers
        rw [Tbc.atLoad_peers]
        exact .nil _
    · refine ⟨fun _ => ⟨.inr rfl, k2, k3, k4, k5⟩, { h.2.tbc with attempt_onBus := ?_ }, h.2.peers, h.2.steps⟩
      show s.tbc.attempt.isSome = true → _
      rw [k4]
      exact fun k => absurd k Bool.false_ne_true
  · exact h

theorem setConsumers_bus (r : ReadingSet) (lost going : Bool) :
    ∀ f ∈ setConsumers r lost going, ∀ t, t.BusOrdered → (f t).1.BusOrdered := by
  refine forall_setConsumers (fun _ h => h.of_eq rfl rfl rfl) (fun t h => ?_) (fun t h => ?_) (fun _ h =>
    h.of_eq rfl rfl rfl)
    (fun t h => ?_) (fun t h => ?_) (fun t h => ?_) (fun t h => ?_)
  · have w := Spv.onSet_within r lost t
    exact h.of_eq (w.tbc rfl) (congrArg Clu.stepList (w.clu rfl)) (w.cfl rfl)
  · have w := Syc.onSet_within r lost t
    exact h.of_eq (w.tbc rfl) (congrArg Clu.stepList (w.clu rfl)) (w.cfl rfl)
  · have w := (Shc.onSet_only r t).within
    exact h.of_eq (w.tbc rfl) (congrArg Clu.stepList (w.clu rfl)) (w.cfl rfl)
  · have w := (Psm.onSet_only r t).within
    exact h.of_eq (w.tbc rfl) (congrArg Clu.stepList (w.clu rfl)) (w.cfl rfl)
  · have w := Clu.onSet_within r t
    exact h.of_eq (w.tbc rfl) (Clu.onSet_stepList r t) (w.cfl rfl)
  · have w := (Csq.onSet_only r t).within
    exact h.of_eq (w.tbc rfl) (congrArg Clu.stepList (w.clu rfl)) (w.cfl rfl)

/-- A reset leaves nothing filed. -/
theorem State.BusOrdered.of_reset {s : State} (ht : s.tbc = Tbc.atReset) (hc : s.clu = Clu.atReset) : s.BusOrdered :=
  ⟨fun _ => by rw [ht, hc]; exact ⟨.inl rfl, rfl, rfl, rfl, rfl⟩,
    by rw [ht]; exact .idle (Nat.zero_le _) (Nat.zero_le _) (Nat.zero_le _) (Nat.zero_le _) rfl,
    by rw [ht]; exact .nil _, by rw [hc]; exact .nil _⟩

theorem answer_busOrdered (c : Instr) {s : State} (h : s.BusOrdered) : (answer c s).1.BusOrdered := by
  have w := answer_within c s
  by_cases hr : (commandReach c).contains .tbc = false ∧ (commandReach c).contains .clu = false ∧
      (commandReach c).contains .cfl = false
  · exact h.of_eq (w.tbc hr.1) (congrArg Clu.stepList (w.clu hr.2.1)) (w.cfl hr.2.2)
  cases c with
  | powerOn | resetAsserted => exact .of_reset rfl rfl
  | resetReleased n =>
    show (s.released n).BusOrdered
    unfold State.released
    split
    next hs =>
      obtain ⟨k1, k2, k3, k4, k5⟩ := h.1 (.inl (by rw [State.running, eq_of_beq hs]; rfl))
      refine ⟨fun _ => ⟨k1, k2, k3, k4, k5⟩, h.2.tbc, ?_, ?_⟩
      · show PeersOrdered _ s.tbc.peers
        rw [k2]; exact .nil _
      · show StepsOrdered _ s.clu.stepList
        rw [k5]; exact .nil _
    · exact h
  | configLoadEnd d => exact State.loadEnd_busOrdered d h
  | censusTimerExpiry =>
    have hu : ((s.setCfl { s.cfl with census := none }).setMtp { s.mtp with armed := true }).BusOrdered :=
      ⟨h.1, h.2.tbc, h.2.peers, h.2.steps⟩
    show s.censusEnd.1.BusOrdered
    unfold State.censusEnd
    simp only
    split
    · split
      · have w := (Csq.firstState_only ((s.setCfl { s.cfl with census := none }).setMtp { s.mtp with armed := true })).within
        exact hu.of_eq (w.tbc rfl) (congrArg Clu.stepList (w.clu rfl)) (w.cfl rfl)
      · exact hu
    · exact h
  | meteringDelivery bits =>
    exact Mtp.deliver_keeps State.BusOrdered handle_busOrdered h (h.of_eq rfl rfl rfl) (fun _ => h.of_eq rfl rfl rfl)
      fun going => setConsumers_bus _ _ going
  | checkEvent =>
    exact Mtp.checkEvent_keeps State.BusOrdered handle_busOrdered h (h.of_eq rfl rfl rfl)
      (forall_lossConsumers (fun _ h => h.of_eq rfl rfl rfl) (fun _ h => h.of_eq rfl rfl rfl)
        (fun _ h => h.of_eq rfl rfl rfl) fun _ h => h.of_eq rfl rfl rfl)
  | status i d | bid i d | object i d | stepBid i d | stepFree i d | querySummary i d | queryPeer i d | ackTrip i d
  | clearAttention i d | forgetPeer i d => exact Tbc.frame_busOrdered i d h
  | queryTrip f | queryResult f => exact Tbc.frame_busOrdered f.ident f.data h
  | ownNumberFrame =>
    refine Tbc.receive_busOrdered h (fun k => ?_) ((Tbc.ownNumber_within _).cfl rfl)
    unfold Tbc.ownNumber
    split
    · exact k
    · exact k.setTbc { k.tbc with } rfl
  | frameDisregarded => exact Tbc.receive_busOrdered h (fun k => k) rfl
  | ownFrameCompletion i => exact Tbc.complete_busOrdered _ h
  | statusPeriodExpiry => exact Tbc.periodExpired_busOrdered h
  | queueTimerExpiry => exact Tbc.queueExpired_busOrdered h
  | canError e => exact Tbc.error_busOrdered e h
  | busOffRecovery => exact Tbc.recovered_busOrdered h
  | peerStale n => exact State.updatePeer_busOrdered h fun p => by split <;> rfl
  | peerBidWindowEnd n => exact Clu.peerWindowEnd_busOrdered h
  | peerStepBidWindowEnd n => exact Clu.stepWindowEnd_busOrdered h
  | peerStepHoldExpiry n => exact Clu.holdExpired_busOrdered h
  | ownWindowExpiry => exact h.of_eq (w.tbc rfl) (Clu.windowExpired_stepList s) (w.cfl rfl)
  | backoffExpiry =>
    refine h.of_eq (w.tbc rfl) ?_ (w.cfl rfl)
    show (Clu.backoffExpired s).1.clu.stepList = _
    unfold Clu.backoffExpired
    split <;> rfl
  | graceTimerExpiry =>
    refine h.of_eq (w.tbc rfl) ?_ (w.cfl rfl)
    show (Clu.graceExpired s).1.clu.stepList = _
    unfold Clu.graceExpired
    split
    · exact Clu.lowered_stepList _
    · rfl
  | topupTimerExpiry => exact h.of_eq rfl rfl rfl
  | budgetWaitOnset =>
    refine h.of_eq (w.tbc rfl) ?_ (w.cfl rfl)
    show (Clu.budgetWaits s).1.clu.stepList = _
    unfold Clu.budgetWaits
    split <;> rfl
  | _ => exact absurd ⟨rfl, rfl, rfl⟩ hr

theorem State.tickRunning_busOrdered {s : State} (h : s.BusOrdered) : s.tickRunning.BusOrdered := by
  refine ⟨fun k => ?_, h.2.tbc.of_queue rfl rfl rfl rfl ?_, h.2.peers.map fun _ => rfl, h.2.steps.map fun r => ?_⟩
  · obtain ⟨k1, k2, k3, k4, k5⟩ := h.1 k
    exact ⟨k1, by show s.tbc.peers.map _ = []; simp [k2], by show s.tbc.queue.map _ = []; simp [k3], k4,
      by show s.clu.stepList.map _ = []; simp [k5]⟩
  · show (s.tbc.queue.map _).map _ = _
    simp
  · exact ⟨rfl, by simp [StepRec.tick], rfl⟩

theorem step_busOrdered {s t : State} (h : step s = .next t) : s.BusOrdered → t.BusOrdered := by
  refine step_keeps State.BusOrdered (fun _ _ h => h.of_eq rfl rfl rfl) (fun c s h => ?_) (fun s h => ?_) h
  · exact after_keeps State.BusOrdered handle_busOrdered (fun _ _ => due_busOrdered) (fun _ h => h.of_eq rfl rfl rfl)
      (answer_busOrdered c h)
  · refine State.BusOrdered.of_eq (s := s.tick) ?_ rfl rfl rfl
    unfold State.tick
    split
    · exact State.tickRunning_busOrdered h
    · exact h.of_eq rfl rfl rfl

/-- Settles O57: the ship link's queue by itself, the bus controller with the two tables and their quiet together. -/
theorem busesStayInOrder : Obligations.BusesStayInOrder := by
  intro s t hq hs ht hp hl h
  obtain ⟨kq, kt, kp, kl⟩ := step_busOrdered h ⟨hq, ht, hp, hl⟩
  exact ⟨kq, step_slc_ordered h hs, kt, kp, kl⟩

end Sys2Proof.Machine

namespace Sys2Proof.Machine

/-! ### The set state -/

theorem Four.anyIn_iff {α : Type} (np : Nat) (g : α → Bool) (f : Four α) :
    f.anyIn np g = true ↔ ∃ i, inPlugSet np i = true ∧ g (f.get i) = true := by
  simp only [Four.anyIn, Bool.or_eq_true, Bool.and_eq_true]
  constructor
  · rintro (((h | h) | h) | h)
    · exact ⟨.p1, h⟩
    · exact ⟨.p2, h⟩
    · exact ⟨.p3, h⟩
    · exact ⟨.p4, h⟩
  · rintro ⟨i, h⟩
    cases i with
    | p1 => exact .inl (.inl (.inl h))
    | p2 => exact .inl (.inl (.inr h))
    | p3 => exact .inl (.inr h)
    | p4 => exact .inr h

/-- A change of one plug that keeps a property of it keeps whether some plug of the set has it. -/
theorem Four.anyIn_set {α : Type} (np : Nat) (g : α → Bool) (f : Four α) (i : PlugNo) (a : α)
    (h : g a = g (f.get i)) : (f.set i a).anyIn np g = f.anyIn np g := by
  cases i <;> simp_all [Four.anyIn, Four.set, Four.get]

/-- R3: a change of one plug that keeps whether it is MADE keeps the derived set state. -/
theorem Psm.derivedSet_setPlug (np : Nat) (p : Psm) (i : PlugNo) (q : Plug)
    (h : (q.pilot == .made) = ((p.plugs.get i).pilot == .made)) :
    Psm.derivedSet np { p with plugs := p.plugs.set i q } = p.derivedSet np := by
  unfold Psm.derivedSet
  rw [Four.anyIn_set np (fun q : Plug => q.pilot == .made) p.plugs i q h,
    Four.allIn_set np (fun q : Plug => q.pilot == .made) p.plugs i q h]

section SetState

variable (np : Nat) (p : Psm)

theorem Psm.derivedSet_empty_iff :
    p.derivedSet np = .empty ↔ ∀ i, inPlugSet np i = true → (p.plugs.get i).pilot ≠ .made := by
  have h := Four.anyIn_iff np (fun q : Plug => q.pilot == .made) p.plugs
  unfold Psm.derivedSet
  cases ha : p.plugs.anyIn np (fun q => q.pilot == .made) with
  | false =>
    rw [ha] at h
    simp only [Bool.not_false, if_true, true_iff]
    exact fun i hi hm => absurd (h.mpr ⟨i, hi, by simp [hm]⟩) Bool.false_ne_true
  | true =>
    obtain ⟨i, hi, hm⟩ := h.mp ha
    constructor
    · intro k
      simp only [Bool.not_true, Bool.false_eq_true, if_false] at k
      split at k <;> exact absurd k (by simp)
    · exact fun k => absurd (by simpa using hm) (k i hi)

theorem Psm.derivedSet_complete_iff (hnp : 1 ≤ np) :
    p.derivedSet np = .complete ↔
      (∀ i, inPlugSet np i = true → (p.plugs.get i).pilot = .made) ∧ p.earthPassing = true := by
  have h := Four.anyIn_iff np (fun q : Plug => q.pilot == .made) p.plugs
  have ha := Four.allIn_iff np (fun q : Plug => q.pilot == .made) p.plugs
  have all : (∀ i, inPlugSet np i = true → (p.plugs.get i).pilot = .made) ↔
      p.plugs.allIn np (fun q => q.pilot == .made) = true := by rw [ha]; simp
  have one : inPlugSet np .p1 = true := decide_eq_true hnp
  rw [all]
  unfold Psm.derivedSet
  constructor
  · intro k
    split at k
    · exact absurd k (by simp)
    split at k
    next hc => simpa using hc
    · exact absurd k (by simp)
  · rintro ⟨k, e⟩
    have : p.plugs.anyIn np (fun q => q.pilot == .made) = true := h.mpr ⟨.p1, one, by simpa using ha.mp k .p1 one⟩
    simp [this, k, e]

theorem Psm.derivedSet_partSet_iff (hnp : 1 ≤ np) :
    p.derivedSet np = .partSet ↔
      (∃ i, inPlugSet np i = true ∧ (p.plugs.get i).pilot = .made) ∧
        ((∃ i, inPlugSet np i = true ∧ (p.plugs.get i).pilot ≠ .made) ∨ p.earthPassing = false) := by
  have he := Psm.derivedSet_empty_iff np p
  have hc := Psm.derivedSet_complete_iff np p hnp
  have three : p.derivedSet np = .partSet ↔ p.derivedSet np ≠ .empty ∧ p.derivedSet np ≠ .complete := by
    cases p.derivedSet np <;> simp
  rw [three, Ne, he, Ne, hc, not_and_or]
  simp only [not_forall, not_not, exists_prop, Bool.not_eq_true, ne_eq]

end SetState

/-! #### Every command leaves it derived -/

section Derived

variable {s t : State}

theorem State.SetDerived.of_eq (h : s.SetDerived) (hp : t.psm = s.psm) (hc : t.cfl = s.cfl) : t.SetDerived := by
  unfold State.SetDerived State.running State.figs at *
  rwa [hp, hc]

/-- New values of the plug set monitor that keep the set state and what it is derived from. -/
theorem State.SetDerived.setPsm (h : s.SetDerived) {p : Psm} (hs : p.setState = s.psm.setState)
    (hd : p.derivedSet s.figs.np = s.psm.derivedSet s.figs.np) : (s.setPsm p).SetDerived :=
  fun hr => hs.trans ((h hr).trans hd.symm)

theorem Psm.take_derived (p : Psm) (r : List Handoff) (s : State) : (Psm.take p r s).1.SetDerived := fun _ => rfl

theorem Psm.loss_derived (p : Psm) (s : State) : (Psm.loss p s).1.SetDerived := by
  unfold Psm.loss
  split <;> exact Psm.take_derived _ _ s

theorem Psm.pilotMade_derived (i : PlugNo) (h : s.SetDerived) : (Psm.pilotMade i s).1.SetDerived := by
  unfold Psm.pilotMade
  simp only
  split
  next hc =>
    have ho : (s.psm.plugs.get i).pilot = .opened := by simp at hc; exact hc.2
    exact State.SetDerived.setPsm (s := s.setPins _) h rfl
      (Psm.derivedSet_setPlug _ s.psm i _ (by rw [ho]; rfl))
  · exact h

theorem Psm.pilotOpened_derived (i : PlugNo) (h : s.SetDerived) : (Psm.pilotOpened i s).1.SetDerived := by
  unfold Psm.pilotOpened
  simp only
  split
  · split
    · exact h
    · exact Psm.take_derived _ _ _
    · exact Psm.loss_derived _ _
  · exact h

theorem Psm.validated_derived (i : PlugNo) (h : s.SetDerived) : (Psm.validated i s).1.SetDerived := by
  unfold Psm.validated
  simp only
  split
  · exact Psm.take_derived _ _ s
  · exact h

theorem Psm.earthchk_derived (b : Bool) (h : s.SetDerived) : (Psm.earthchk b s).1.SetDerived := by
  unfold Psm.earthchk
  simp only
  split
  · exact Psm.take_derived _ _ _
  · exact h

theorem Psm.latchFeedback_derived (i : PlugNo) (e : Bool) (h : s.SetDerived) :
    (Psm.latchFeedback i e s).1.SetDerived := by
  unfold Psm.latchFeedback
  simp only
  split
  · split
    · exact Psm.loss_derived _ _
    · split <;> exact Psm.take_derived _ _ _
  · exact h

theorem Psm.engageRequest_derived (h : s.SetDerived) : (Psm.engageRequest s).1.SetDerived := by
  unfold Psm.engageRequest
  simp only
  split
  · exact h
  split
  · exact h
  split <;> exact Psm.take_derived _ _ _

theorem Psm.engageExpired_derived (h : s.SetDerived) : (Psm.engageExpired s).1.SetDerived := by
  unfold Psm.engageExpired
  split <;> exact h

theorem Psm.deadExpired_derived (h : s.SetDerived) : (Psm.deadExpired s).1.SetDerived := by
  unfold Psm.deadExpired
  split <;> exact h

theorem Psm.releaseRequest_derived (h : s.SetDerived) : (Psm.releaseRequest s).1.SetDerived := by
  unfold Psm.releaseRequest
  split
  · exact h
  split
  · exact Psm.take_derived _ _ s
  · exact h

theorem Psm.onSet_derived (r : ReadingSet) (s : State) : (Psm.onSet r s).1.SetDerived := by
  unfold Psm.onSet
  simp only
  split
  · split <;> exact Psm.take_derived _ _ s
  · exact Psm.take_derived _ _ s

end Derived

theorem handle_setDerived (x : Handoff) (s : State) (h : s.SetDerived) : (handle x s).1.SetDerived := by
  by_cases hr : x.reach.contains .psm = false
  · exact h.of_eq ((handle_within x s).psm hr) (handle_kept x s).cfl
  rw [Bool.not_eq_false] at hr
  cases x with
  | psmEngage => exact Psm.engageRequest_derived h
  | psmRelease => exact Psm.releaseRequest_derived h
  | psmAwaitDead => exact h
  | psmLive => exact Psm.take_derived _ _ s
  | _ => exact absurd hr Bool.false_ne_true

theorem due_setDerived {s : State} {o : Out} (ho : s.due = some o) (h : s.SetDerived) : o.1.SetDerived := by
  have other {bs : List Block} (w : Within bs s o.1) (hp : bs.contains .psm = false) (hc : bs.contains .cfl = false) :=
    h.of_eq (w.psm hp) (w.cfl hc)
  rcases due_cases ho with k | k | k | k | k
  · exact other (Esd.due_only s o k).within rfl rfl
  · rw [Psm.due_eq k]; exact Psm.take_derived _ _ s
  · exact other (by rw [Esd.ownRequest_eq k]; exact (Esd.closeRequest_only s).within) rfl rfl
  · exact other (Csq.due_only s o k).within rfl rfl
  · exact other (by rw [Tbc.due_eq k]; exact (Tbc.begin_only s).within) rfl rfl

theorem setConsumers_setDerived (r : ReadingSet) (lost going : Bool) :
    ∀ f ∈ setConsumers r lost going, ∀ t, t.SetDerived → (f t).1.SetDerived :=
  forall_setConsumers (fun t _ => Psm.take_derived _ _ t)
    (fun t h => have w := Spv.onSet_within r lost t; h.of_eq (w.psm rfl) (w.cfl rfl))
    (fun t h => have w := Syc.onSet_within r lost t; h.of_eq (w.psm rfl) (w.cfl rfl)) (fun _ h => h)
    (fun t h => have w := (Shc.onSet_only r t).within; h.of_eq (w.psm rfl) (w.cfl rfl))
    (fun t _ => Psm.onSet_derived r t)
    (fun t h => have w := Clu.onSet_within r t; h.of_eq (w.psm rfl) (w.cfl rfl))
    fun t h => have w := (Csq.onSet_only r t).within; h.of_eq (w.psm rfl) (w.cfl rfl)

/-- A part that is not running. -/
theorem State.SetDerived.of_stopped {s : State} (h : s.running = false) : s.SetDerived :=
  fun k => absurd (h.symm.trans k) Bool.false_ne_true

theorem answer_setDerived (c : Instr) {s : State} (h : s.SetDerived) : (answer c s).1.SetDerived := by
  have w := answer_within c s
  by_cases hr : (commandReach c).contains .psm = false ∧ (commandReach c).contains .cfl = false
  · exact h.of_eq (w.psm hr.1) (w.cfl hr.2)
  cases c with
  | powerOn | resetAsserted => exact .of_stopped rfl
  | resetReleased n =>
    show (s.released n).SetDerived
    unfold State.released
    split
    · exact .of_stopped rfl
    · exact h
  | configLoadEnd d =>
    show (s.loadEnd d).1.SetDerived
    unfold State.loadEnd
    split
    · split
      · exact fun _ => rfl
      · exact .of_stopped rfl
    · exact h
  | censusTimerExpiry =>
    have hu : ((s.setCfl { s.cfl with census := none }).setMtp { s.mtp with armed := true }).SetDerived := h
    show s.censusEnd.1.SetDerived
    unfold State.censusEnd
    simp only
    split
    · split
      · exact hu.of_eq ((Csq.firstState_only _).within.psm rfl) ((Csq.firstState_only _).within.cfl rfl)
      · exact hu
    · exact h
  | meteringDelivery bits =>
    exact Mtp.deliver_keeps State.SetDerived handle_setDerived h h (fun _ => h)
      fun going => setConsumers_setDerived _ _ going
  | checkEvent =>
    exact Mtp.checkEvent_keeps State.SetDerived handle_setDerived h h
      (forall_lossConsumers (fun _ k => k) (fun t _ => Psm.take_derived _ _ t) (fun _ k => k) fun _ k => k)
  | pilotMade i => exact Psm.pilotMade_derived i h
  | pilotOpened i => exact Psm.pilotOpened_derived i h
  | validationTimerExpiry i => exact Psm.validated_derived i h
  | earthchkChange b => exact Psm.earthchk_derived b h
  | latchFeedbackChange i b => exact Psm.latchFeedback_derived i b h
  | engageSupervisionExpiry => exact Psm.engageExpired_derived h
  | deadTimerExpiry => exact Psm.deadExpired_derived h
  | _ => exact absurd ⟨rfl, rfl⟩ hr

/-- R3: set-held, plug by plug. -/
theorem State.setHeld_iff (s : State) : s.setHeld = true ↔
    s.psm.setState = .complete ∧ ∀ i, inPlugSet s.figs.np i = true → (s.psm.plugs.get i).confirmed = true := by
  unfold State.setHeld
  rw [Bool.and_eq_true, Four.allIn_iff, beq_iff_eq]

/-- Settles O11: the three set states read off `derivedSet`, and its derivation kept by every block. -/
theorem setStateFromPilotsAndEarthCheck : Obligations.SetStateFromPilotsAndEarthCheck := by
  refine ⟨fun np p hnp => ⟨Psm.derivedSet_empty_iff np p, Psm.derivedSet_complete_iff np p hnp,
    Psm.derivedSet_partSet_iff np p hnp⟩, State.setHeld_iff, fun c s t hs h => ?_⟩
  rw [after_eq_of_exec h]
  exact after_keeps State.SetDerived handle_setDerived (fun _ _ => due_setDerived) (fun _ h =>
    h) (answer_setDerived c hs)

/-! ### The machine right after reset -/

/-- Settles O59: every register holds its reset value. -/
theorem invariantsHoldAtReset : Obligations.InvariantsHoldAtReset := by
  obtain ⟨hquiet, hfiled⟩ := State.BusOrdered.of_reset (s := State.reset) rfl rfl
  refine ⟨?ptu, ?csq, hquiet, .of_empty rfl, hfiled.tbc, hfiled.peers, hfiled.steps, ?counts, .of_unproven rfl rfl,
    .of_stopped rfl, ?breaker, .of_released rfl⟩
  case ptu => exact ⟨List.nodup_nil, rfl, Nat.zero_le _, fun _ => rfl, Nat.zero_le _, Nat.zero_le _, Nat.zero_le _⟩
  case csq => exact ⟨Nat.zero_le _, Nat.zero_le _, Nat.zero_le _, Nat.zero_le _, Nat.zero_le _⟩
  case counts => constructor <;> exact Nat.le_of_ble_eq_true rfl
  case breaker =>
    exact ⟨fun k => absurd k Bool.false_ne_true, fun k => absurd k Bool.false_ne_true,
      fun k => absurd k Bool.false_ne_true, fun _ => ⟨rfl, rfl, rfl, rfl, rfl⟩⟩

/-! ### The switch outputs and their interlocks -/

section Switch

variable {s : State}

/-- R12 to R14: an answer of the switch drive that asserts an output does so under the interlock of its direction. -/
def DrivenUnderInterlock (s t : State) : Prop :=
  t.esd.driving = true → t.esd.dir = .toOpen ∧ s.setHeld = true ∨ t.esd.dir = .toClosed ∧ s.closeInterlock = true

theorem DrivenUnderInterlock.of_released {t : State} (h : t.esd.driving = false) : DrivenUnderInterlock s t :=
  fun k => absurd (h.symm.trans k) Bool.false_ne_true

theorem Esd.closeRequest_interlock (h : s.esd.driving = false) : DrivenUnderInterlock s (Esd.closeRequest s).1 := by
  unfold Esd.closeRequest
  split
  · exact .of_released h
  · exact .of_released h
  · exact .of_released h
  · exact fun k => .inr ⟨rfl, k⟩
  all_goals
    split
    next hc => exact fun _ => .inr ⟨rfl, hc⟩
    · exact .of_released h

theorem Esd.openRequest_interlock (h : s.esd.driving = false) : DrivenUnderInterlock s (Esd.openRequest s).1 := by
  unfold Esd.openRequest
  split
  · exact .of_released h
  · exact .of_released h
  · exact .of_released h
  · exact fun k => .inl ⟨rfl, k⟩
  all_goals
    split
    next hc => exact fun _ => .inl ⟨rfl, hc⟩
    · exact .of_released h

theorem handle_interlock (x : Handoff) (h : s.esd.driving = false) : DrivenUnderInterlock s (handle x s).1 := by
  by_cases hr : x.reach.contains .esd = false
  · exact .of_released (by rw [(handle_within x s).esd hr]; exact h)
  rw [Bool.not_eq_false] at hr
  cases x with
  | esdOpen => exact Esd.openRequest_interlock h
  | esdClose => exact Esd.closeRequest_interlock h
  | esdWithdraw =>
    refine .of_released ?_
    show (Esd.withdraw s).1.esd.driving = false
    unfold Esd.withdraw
    split <;> exact h
  | _ => exact absurd hr Bool.false_ne_true

/-- R12 to R14: what the drive's due move can be. -/
theorem Esd.due_interlock {o : Out} (h : Esd.due s = some o) : DrivenUnderInterlock s o.1 := by
  unfold Esd.due at h
  simp only at h
  split at h
  next hc =>
    cases h
    simp only [Bool.and_eq_true] at hc
    exact fun _ => .inr ⟨rfl, hc.2⟩
  split at h
  next hc =>
    cases h
    simp only [Bool.and_eq_true] at hc
    exact fun _ => .inl ⟨rfl, hc.2⟩
  split at h
  next hc =>
    cases h
    intro k
    have k : s.travelInterlock = true := k
    unfold State.travelInterlock at k
    split at k
    next hd => exact .inl ⟨hd, k⟩
    next hd => exact .inr ⟨hd, k⟩
    · exact absurd k Bool.false_ne_true
  · exact absurd h (by simp)

theorem State.due_of_esd {o : Out} (h : Esd.due s = some o) : s.due = some o := by
  unfold State.due; rw [h]; rfl

/-- R12, R13: the travel with which a pending request is carried out. -/
theorem Esd.travelTo_eq (dir : EswDir) : Esd.travelTo dir true s =
    (s.setEsd { s.esd with state := .moving, dir := dir, driving := true, travel := some 15000, request := .none },
      if s.esd.state = .moving then ([] : List Handoff) else [.bkdRetest, .csqSwitch]) := by
  unfold Esd.travelTo Esd.take
  congr 1
  cases s.esd.state <;> rfl

section AtRest

variable (hrest : s.esd.state = .opened ∨ s.esd.state = .closed ∨ (s.esd.state = .moving ∧ s.esd.dir = .none))
include hrest

theorem Esd.due_of_closing (hq : s.esd.request = .closing) (hi : s.closeInterlock = true) :
    Esd.due s = some (Esd.travelTo .toClosed true s) := by
  unfold Esd.due
  rcases hrest with h | h | ⟨h, hd⟩ <;> simp [*]

theorem Esd.due_of_opening (hq : s.esd.request = .opening) (hi : s.setHeld = true) :
    Esd.due s = some (Esd.travelTo .toOpen true s) := by
  unfold Esd.due
  rcases hrest with h | h | ⟨h, hd⟩ <;> simp [*]

end AtRest

theorem Esd.due_of_travel (hs : s.esd.state = .moving) (hd : s.esd.dir ≠ .none)
    (hi : s.esd.driving ≠ s.travelInterlock) :
    Esd.due s = some (s.setEsd { s.esd with driving := s.travelInterlock }, []) := by
  unfold Esd.due
  simp [*]

theorem State.travelInterlock_toClosed (h : s.esd.dir = .toClosed) : s.travelInterlock = s.closeInterlock := by
  unfold State.travelInterlock; rw [h]

theorem State.travelInterlock_toOpen (h : s.esd.dir = .toOpen) : s.travelInterlock = s.setHeld := by
  unfold State.travelInterlock; rw [h]

/-- Where nothing is due, the output of a travel agrees with its interlock. -/
theorem State.driving_of_calm (h : s.due = none) (hs : s.esd.state = .moving) (hd : s.esd.dir ≠ .none) :
    s.esd.driving = s.travelInterlock := by
  refine Decidable.byContradiction fun hi => ?_
  have := State.due_of_esd (Esd.due_of_travel hs hd hi)
  exact absurd (h.symm.trans this) (by simp)

end Switch

/-- Settles O13: the interlock of each hand-off that reaches the drive, and the drive's due move read off `Esd.due`. -/
theorem switchDrivenOnlyUnderItsInterlock : Obligations.SwitchDrivenOnlyUnderItsInterlock := by
  refine ⟨fun x s h => handle_interlock x h, fun s => ⟨fun hq hr hi => ?_, fun hq hr hi => ?_, fun hs hd hi => ?_,
    fun hs hd hi => ?_, fun o ho => ⟨State.due_of_esd ho, Esd.due_interlock ho⟩, fun hn hs => ⟨fun hd => ?_, fun hd =>
      ?_⟩⟩⟩
  · exact (State.due_of_esd (Esd.due_of_closing hr hq hi)).trans (congrArg some (Esd.travelTo_eq .toClosed))
  · exact (State.due_of_esd (Esd.due_of_opening hr hq hi)).trans (congrArg some (Esd.travelTo_eq .toOpen))
  · have e := State.travelInterlock_toClosed hd
    rw [← e] at hi ⊢
    exact State.due_of_esd (Esd.due_of_travel hs (by simp [hd]) hi)
  · have e := State.travelInterlock_toOpen hd
    rw [← e] at hi ⊢
    exact State.due_of_esd (Esd.due_of_travel hs (by simp [hd]) hi)
  · exact (State.driving_of_calm hn hs (by simp [hd])).trans (State.travelInterlock_toClosed hd)
  · exact (State.driving_of_calm hn hs (by simp [hd])).trans (State.travelInterlock_toOpen hd)

/-! ### HOLD and the CLOSE pulse -/

/-- R70, R71: neither HOLD nor CLOSE comes on from `b` to `c`. -/
def Bkd.Quieter (b c : Bkd) : Prop :=
  (c.hold = true → b.hold = true) ∧ (c.closePulse ≠ none → b.closePulse ≠ none)

theorem Bkd.Quieter.of_eq {b c : Bkd} (hh : c.hold = b.hold) (hp : c.closePulse = b.closePulse) : b.Quieter c :=
  ⟨fun k => hh ▸ k, fun k => hp ▸ k⟩

theorem Bkd.order_quieter (b : Bkd) : b.Quieter b.order := by
  obtain ⟨e, -⟩ | ⟨e, -⟩ | ⟨e, -⟩ := Bkd.order_cases b
  · rw [e]; exact .of_eq rfl rfl
  all_goals rw [e]; exact ⟨fun k => absurd k Bool.false_ne_true, id⟩

theorem Bkd.retest_quieter (s : State) : s.bkd.Quieter (Bkd.retest s).1.bkd := by
  obtain ⟨e, -⟩ | ⟨e, -⟩ := Bkd.retest_cases s
  · rw [e]; exact .of_eq rfl rfl
  · rw [e]; exact Bkd.order_quieter s.bkd

theorem Bkd.slot_quieter (held : Bool) (s : State) : s.bkd.Quieter (Bkd.slot held s).1.bkd := by
  unfold Bkd.slot
  simp only
  split
  · exact ⟨id, fun k => absurd rfl k⟩
  · exact .of_eq rfl rfl

theorem Bkd.onSeq_quieter (old new : SeqState) (s : State) : s.bkd.Quieter (Bkd.onSeq old new s).1.bkd := by
  unfold Bkd.onSeq
  simp only
  split
  · split
    · exact .of_eq rfl rfl
    · exact Bkd.retest_quieter (s.setBkd { s.bkd with upstream := false })
  split
  · exact Bkd.retest_quieter (s.setBkd { s.bkd with upstream := s.bkd.upstream && new == .lockout })
  · exact Bkd.retest_quieter s

/-- R70, R71: no hand-off but a close order energises HOLD or starts a CLOSE pulse. -/
theorem handle_quieter (x : Handoff) (s : State) (hx : x ≠ .bkdClose) : s.bkd.Quieter (handle x s).1.bkd := by
  by_cases hr : x.reach.contains .bkd = false
  · have e := (handle_within x s).bkd hr
    exact .of_eq (by rw [e]) (by rw [e])
  rw [Bool.not_eq_false] at hr
  cases x with
  | bkdOpen | bkdTrip => exact Bkd.order_quieter s.bkd
  | bkdRetest => exact Bkd.retest_quieter s
  | bkdClose => exact absurd rfl hx
  | bkdSlot held => exact Bkd.slot_quieter held s
  | bkdSeq old new => exact Bkd.onSeq_quieter old new s
  | _ => exact absurd hr Bool.false_ne_true

/-- Settles O30: only the close order comes past `handle_quieter`, and what it answers is `Bkd.closeOrder_cases`. -/
theorem closeOnlyByAnAcceptedOrder : Obligations.CloseOnlyByAnAcceptedOrder := by
  refine fun x s => ⟨fun hon => ?_, ?_, ?_⟩
  · by_cases hx : x = .bkdClose
    · subst hx
      refine ⟨rfl, State.closeRefusal_eq_none.mp ?_⟩
      obtain ⟨b, e, -⟩ | ⟨hn, -⟩ := Bkd.closeOrder_cases s
      · have e : (handle .bkdClose s).1 = s.setBkd { s.bkd with refusedClose := b } := e
        rw [e] at hon
        rcases hon with ⟨h, k⟩ | ⟨h, k⟩
        · exact absurd (h.symm.trans k) Bool.false_ne_true
        · exact absurd h k
      · exact hn
    · obtain ⟨hhold, hpulse⟩ := handle_quieter x s hx
      rcases hon with ⟨h, k⟩ | ⟨h, k⟩
      · exact absurd (h.symm.trans (hhold k)) Bool.false_ne_true
      · exact absurd h (hpulse k)
  · rintro rfl hn
    have e : handle .bkdClose s = Bkd.closeOrder s := rfl
    rw [e]
    unfold Bkd.closeOrder
    rw [hn]
    exact ⟨rfl, rfl⟩
  · rintro rfl hh hc hs
    obtain ⟨-, k⟩ | ⟨e, -⟩ := Bkd.retest_cases s
    · exact absurd (hc.symm.trans (k hh)) Bool.false_ne_true
    · have e : handle .bkdRetest s = Bkd.take s.bkd.order s := e
      rw [e]
      refine ⟨Bkd.order_hold s.bkd hs, ?_⟩
      show s.bkd.order.tripPulse = some 100
      obtain ⟨-, h1, h2⟩ | ⟨e, -⟩ | ⟨e, -⟩ := Bkd.order_cases s.bkd
      · exact absurd hs (by simp [h1, h2])
      all_goals rw [e]; rfl

end Sys2Proof.Machine

namespace Sys2Proof.Machine

/-! ## Sets in a row: the supply prover and the synchronism checker -/

/-! ### Proving the supply -/

section Prover

variable {n k : Nat} {v : Spv}

/-- R28: good sets below N are counted, and nothing else. -/
theorem Spv.prove_iterate (hs : v.stability = 0) (hk : k < n) :
    (Spv.prove n true)^[k] v = { v with stability := k } := by
  induction k with
  | zero => exact congrArg (fun m => { v with stability := m }) hs
  | succ k ih =>
    rw [Function.iterate_succ_apply', ih (by omega)]
    simp [Spv.prove, show ¬n ≤ k + 1 by omega]

/-- R28: the Nth good set in a row proves the supply. -/
theorem Spv.prove_iterate_last (hn : 1 ≤ n) (hs : v.stability = 0) :
    (Spv.prove n true)^[n] v =
      { v with stability := n, proven := true, badRun := 0, shoreLoss := false, recovery := 0 } := by
  obtain ⟨m, rfl⟩ := Nat.exists_eq_add_of_le' hn
  rw [Function.iterate_succ_apply', Spv.prove_iterate hs (Nat.lt_succ_self m)]
  simp [Spv.prove]

/-- R29: bad sets of a proven supply are counted up to the fourth. -/
theorem Spv.test_iterate (state : SeqState) (hb : v.badRun = 0) (hk : k < 5) :
    (fun v => (Spv.test true state v).1)^[k] v = { v with badRun := k } := by
  induction k with
  | zero => exact congrArg (fun m => { v with badRun := m }) hb
  | succ k ih =>
    rw [Function.iterate_succ_apply', ih (by omega)]
    simp [Spv.test, show ¬4 ≤ k by omega]

/-- R31: good sets below N are counted towards the recovery. -/
theorem Spv.recover_iterate (hl : v.shoreLoss = true) (hr : v.recovery = 0) (hk : k < n) :
    (Spv.recover n true)^[k] v = { v with recovery := k } := by
  induction k with
  | zero => exact congrArg (fun m => { v with recovery := m }) hr
  | succ k ih =>
    rw [Function.iterate_succ_apply', ih (by omega)]
    simp [Spv.recover, hl, show ¬n ≤ k + 1 by omega]

/-- R31: the Nth good set in a row ends the SHORE-LOSS condition. -/
theorem Spv.recover_iterate_last (hn : 1 ≤ n) (hl : v.shoreLoss = true) (hr : v.recovery = 0) :
    (Spv.recover n true)^[n] v = { v with shoreLoss := false } := by
  obtain ⟨m, rfl⟩ := Nat.exists_eq_add_of_le' hn
  rw [Function.iterate_succ_apply', Spv.recover_iterate hl hr (Nat.lt_succ_self m)]
  simp [Spv.recover, hl, hr]

/-- R30: the states of a connection, spelt out. -/
theorem SeqState.shoreFed_iff (state : SeqState) :
    state.shoreFed = true ↔ state ∈ [SeqState.parallel, .shore, .releaseWait, .handback, .unloading] := by
  cases state <;> simp [SeqState.shoreFed]

/-- R30: the fifth bad set in a row loses the supply. -/
theorem Spv.test_fifth (state : SeqState) (h : v.badRun = 4) :
    Spv.test true state v =
      if state.shoreFed then
        ({ v with proven := false, stability := 0, badRun := 0, shoreLoss := true, recovery := 0 },
          [.csqShoreLoss, .ptuCondition .shoreLoss])
      else ({ v with proven := false, stability := 0, badRun := 0 }, [.csqShoreLoss]) := by
  simp [Spv.test, h]

end Prover

/-- Settles O16: each run of sets by induction on its length. -/
theorem nGoodSetsProveTheSupply : Obligations.NGoodSetsProveTheSupply := by
  refine ⟨fun n k v hn hs hp => ⟨fun hk => ?_, ?_⟩, fun k state v hp hb hk => ?_, fun n k v hn hl hr => ⟨fun hk => ?_,
    ?_⟩⟩
  · rw [Spv.prove_iterate hs hk]
    exact ⟨rfl, hp, rfl, rfl⟩
  · rintro rfl
    rw [Spv.prove_iterate_last hn hs]
    exact ⟨rfl, rfl, rfl, rfl⟩
  · intro w o fed
    have hw : w = { v with badRun := k } := Spv.test_iterate state hb hk
    have ho : o = Spv.test true state { v with badRun := k } := congrArg (Spv.test true state) hw
    refine ⟨hw, ?_, fun h4 => ?_, fun h4 => ?_⟩
    · rw [hw]
      show { v with badRun := 0 } = v
      rw [← hb]
    · rw [ho]
      simp [Spv.test, show ¬4 ≤ k by omega]
    · subst h4
      rw [Spv.test_fifth state rfl] at ho
      split at ho
      next hf =>
        rw [ho]
        exact ⟨rfl, rfl, rfl, fun _ => ⟨rfl, rfl, rfl⟩, fun k => absurd ((SeqState.shoreFed_iff state).mp hf) k⟩
      next hf =>
        rw [ho]
        exact ⟨rfl, rfl, rfl, fun k => absurd ((SeqState.shoreFed_iff state).mpr k) hf, fun _ => ⟨rfl, rfl⟩⟩
  · rw [Spv.recover_iterate hl hr hk]
    refine ⟨rfl, ?_⟩
    simp [Spv.recover, hl]
    rw [← hl, ← hr]
  · rintro rfl
    exact Spv.recover_iterate_last hn hl hr

/-! ### The synchronism checker -/

section Checker

variable {r : ReadingSet} {f : Figures} {y : Syc}

/-- R85, R86: a sync-good set that is not the third in a row. -/
theorem Syc.evaluate_below (hv : r.verdictAt f = .none) (hg : y.good ≤ 1) (hp : y.permit = false) :
    (y.evaluate r f).1.good = y.good + 1 ∧ (y.evaluate r f).1.permit = false ∧ (y.evaluate r f).2 = [] := by
  have hn : min 3 (y.good + 1) = y.good + 1 := by omega
  have h3 : ¬y.good + 1 = 3 := by omega
  simp [Syc.evaluate, hv, hn, hp]
  omega

/-- R86: the third sync-good set in a row. -/
theorem Syc.evaluate_permits (hv : r.verdictAt f = .none) (hg : 2 ≤ y.good) (hp : y.permit = false) :
    (y.evaluate r f).1.permit = true ∧ (y.evaluate r f).2 = [.csqPermit] := by
  have hn : min 3 (y.good + 1) = 3 := by omega
  simp [Syc.evaluate, hv, hn, hp]

/-- R86: a set that is not sync-good. -/
theorem Syc.evaluate_ends (hv : r.verdictAt f ≠ .none) :
    (y.evaluate r f).1.good = 0 ∧ (y.evaluate r f).1.permit = false ∧
      (y.evaluate r f).2 = if y.permit then [.csqPermitWithdrawn] else [] := by
  simp [Syc.evaluate, hv]

/-- R88: a run of NEGATIVE sets. -/
theorem Syc.countNegative_iterate (h : r.shipSeq = .negative) (h0 : y.negative = 0) (k : Nat) :
    (fun y : Syc => (y.countNegative r).1)^[k] y = { y with negative := min 25 k } := by
  induction k with
  | zero => exact congrArg (fun m => { y with negative := m }) h0
  | succ k ih =>
    rw [Function.iterate_succ_apply', ih]
    have hn : min 25 (min 25 k + 1) = min 25 (k + 1) := by omega
    simp [Syc.countNegative, h, hn]

theorem ReadingSet.shipDead_iff : r.shipDead = true ↔ r.shipV.l1 < 100 ∧ r.shipV.l2 < 100 ∧ r.shipV.l3 < 100 := by
  simp [ReadingSet.shipDead, Three.all, and_assoc]

/-- R89: one dead set. -/
theorem Syc.countDead_of_dead (h : r.shipDead = true) (y : Syc) :
    y.countDead r =
      ({ y with dead := min 25 (y.dead + 1), confirm := y.confirm || min 25 (y.dead + 1) == 25, verdict := .dead },
        if min 25 (y.dead + 1) == 25 && !y.confirm then [.csqDeadConfirmed] else []) := if_pos h

/-- R89: a run of dead sets. -/
theorem Syc.countDead_iterate (h : r.shipDead = true) (h0 : y.dead = 0) (hc : y.confirm = false) (k : Nat) :
    let q := (fun y : Syc => (y.countDead r).1)^[k] y
    q.dead = min 25 k ∧ q.confirm = decide (25 ≤ k) ∧ (0 < k → q.verdict = .dead) := by
  induction k with
  | zero => exact ⟨h0, hc, fun k => absurd k (Nat.lt_irrefl 0)⟩
  | succ k ih =>
    obtain ⟨hd, hc, -⟩ := ih
    have hn : min 25 (min 25 k + 1) = min 25 (k + 1) := by omega
    have hk : (25 ≤ k ∨ min 25 (k + 1) = 25) ↔ 25 ≤ k + 1 := by omega
    rw [Function.iterate_succ_apply', Syc.countDead_of_dead h, hd, hc, hn]
    exact ⟨rfl, by rw [Bool.eq_iff_iff]; simpa using hk, fun _ => rfl⟩

end Checker

/-- Settles O18: one set by the cases of `Syc.evaluate`, a run of sets by induction on its length. -/
theorem threeGoodSetsPermitTheClose : Obligations.ThreeGoodSetsPermitTheClose := by
  refine fun r f y => ⟨Syc.evaluate_below, Syc.evaluate_permits, Syc.evaluate_ends, fun h h0 k => ?negative, fun h =>
    ?other,
    fun h1 h2 h3 h0 hc k => ?dead, fun h => ?live⟩
  case negative =>
    refine ⟨Syc.countNegative_iterate h h0 k, ?_⟩
    rw [Syc.countNegative_iterate h h0 k]
    have hk : min 25 k = 24 ↔ k = 24 := by omega
    simp [Syc.countNegative, h, hk]
  case other => simp [Syc.countNegative, h]
  case dead =>
    have hd : r.shipDead = true := ReadingSet.shipDead_iff.mpr ⟨h1, h2, h3⟩
    intro q
    obtain ⟨hq, hconf, hv⟩ := Syc.countDead_iterate hd h0 hc k
    refine ⟨hq, hconf, hv, ?_⟩
    rw [Syc.countDead_of_dead hd, show q.dead = _ from hq, show q.confirm = _ from hconf]
    have hk : (24 ≤ k ∧ k < 25) ↔ k = 24 := by omega
    simp [hk]
  case live =>
    have hd : r.shipDead = false := by
      rw [Bool.eq_false_iff, ne_eq, ReadingSet.shipDead_iff]
      omega
    simp [Syc.countDead, hd]

end Sys2Proof.Machine

namespace Sys2Proof.Machine

/-! ## The bytes of frames and items -/

/-! ### Fields -/

/-- A field behind the first part of the data. -/
theorem fieldNat_append (a l : List Byte) (k w : Nat) : fieldNat (a ++ l) (a.length + k) w = fieldNat l k w := by
  simp [fieldNat]

/-- The field behind `w` bytes. -/
theorem fieldNat_beBytes_skip (w n : Nat) (l : List Byte) (k v : Nat) :
    fieldNat (beBytes w n ++ l) (w + k) v = fieldNat l k v := by
  have h := fieldNat_append (beBytes w n) l k v
  rwa [beBytes_length] at h

/-- The field of the first `w` bytes. -/
theorem fieldNat_beBytes (w n : Nat) (l : List Byte) : fieldNat (beBytes w n ++ l) 0 w = n % 256 ^ w := by
  rw [← beNat_beBytes]
  simp [fieldNat]

theorem fieldNat_beBytes_self (w n : Nat) : fieldNat (beBytes w n) 0 w = n % 256 ^ w := by
  rw [← beNat_beBytes]
  simp [fieldNat, List.take_of_length_le]

/-! ### The STATUS -/

/-- Section 12.3: the flags of a STATUS, packed. -/
def statusFlags (start pending step : Bool) : Nat :=
  (if start then 1 else 0) + (if pending then 2 else 0) + (if step then 4 else 0)

theorem statusFlags_bits (a b c : Bool) : statusFlags a b c < 8 ∧ (statusFlags a b c % 2 == 1) = a ∧
    (statusFlags a b c / 2 % 2 == 1) = b ∧ (statusFlags a b c / 4 % 2 == 1) = c := by
  revert a b c; decide

/-- R133: the four parts of a STATUS. -/
theorem State.statusData_eq (s : State) : s.statusData =
    beBytes 1 s.csq.state.code ++ (beBytes 1 (statusFlags (s.csq.state == .start) s.clu.floorPending s.clu.stepHeld) ++
      (packClaims s.clu.claim s.clu.floorField s.shc.cd ++ beBytes 1 s.shc.uq)) := by
  simp only [State.statusData, statusFlags, List.append_assoc]

/-- Section 12.3: the three figures of a STATUS, in units of 10 kVA. -/
theorem packClaims_figures {k floor cd : Nat} (hk : k < 40960) (hf : floor < 40960) (hc : cd < 40960) :
    let n := beNat (packClaims k floor cd)
    n / 2 ^ 28 = k / 10 ∧ n / 2 ^ 16 % 4096 = floor / 10 ∧ n / 2 ^ 4 % 4096 = cd / 10 := by
  intro n
  have hn : n = ((k / 10 % 4096 * 4096 + floor / 10 % 4096) * 4096 + cd / 10 % 4096) * 16 := by
    show beNat (beBytes 5 _) = _
    rw [beNat_beBytes, Nat.mod_eq_of_lt]
    omega
  omega

theorem packClaims_length (k floor cd : Nat) : (packClaims k floor cd).length = 5 := beBytes_length 5 _

/-- Section 12.3: the fields of a STATUS. -/
theorem status_fields (code flags uq : Nat) {c : List Byte} (h : c.length = 5) :
    let d := beBytes 1 code ++ (beBytes 1 flags ++ (c ++ beBytes 1 uq))
    fieldNat d 0 1 = code % 256 ∧ fieldNat d 1 1 = flags % 256 ∧ fieldNat d 2 5 = beNat c ∧
      fieldNat d 7 1 = uq % 256 := by
  have skip := fieldNat_append c (beBytes 1 uq)
  rw [h] at skip
  refine ⟨fieldNat_beBytes 1 .., ?_, ?_, ?_⟩
  · rw [fieldNat_beBytes_skip 1 _ _ 0 1, fieldNat_beBytes, Nat.pow_one]
  · rw [fieldNat_beBytes_skip 1 _ _ 1 5, fieldNat_beBytes_skip 1 _ _ 0 5]
    simp [fieldNat, ← h]
  · rw [fieldNat_beBytes_skip 1 _ _ 6 1, fieldNat_beBytes_skip 1 _ _ 5 1, skip 0 1, fieldNat_beBytes_self, Nat.pow_one]

theorem SeqState.code_lt (q : SeqState) : q.code < 14 := by cases q <;> decide

/-- Settles O41: each field of the frame read back from the part that carries it. -/
theorem statusFrameRoundTrip : Obligations.StatusFrameRoundTrip := by
  intro s p hk hk' hf hf' hc hc' hu
  have hs : s.csq.state.code < 14 := s.csq.state.code_lt
  rw [State.statusData_eq]
  refine ⟨by simp [packClaims_length], ?_⟩
  obtain ⟨hlt, h0, h1, h2⟩ := statusFlags_bits (s.csq.state == .start) s.clu.floorPending s.clu.stepHeld
  generalize statusFlags (s.csq.state == .start) s.clu.floorPending s.clu.stepHeld = flags at *
  obtain ⟨e1, e2, e3⟩ := packClaims_figures hk' hf' hc'
  obtain ⟨code, second, claims, urgency⟩ := status_fields s.csq.state.code flags s.shc.uq
    (packClaims_length s.clu.claim s.clu.floorField s.shc.cd)
  rw [Nat.mod_eq_of_lt (by omega)] at code second urgency
  unfold Peer.file
  simp only [code, second, claims, urgency, h0, h1, h2, e1, e2, e3]
  rw [Nat.div_mul_cancel (Nat.dvd_of_mod_eq_zero hk), Nat.div_mul_cancel (Nat.dvd_of_mod_eq_zero hf),
    Nat.div_mul_cancel (Nat.dvd_of_mod_eq_zero hc)]

/-! ### Items and their segments -/

/-- R184: one segment: the item code, its number with the mark of the last, its payload. -/
def segment (item k : Nat) (d : List Byte) : List Byte := beBytes 1 item ++ beBytes 1 k ++ d

theorem segment_length (item k : Nat) (d : List Byte) : (segment item k d).length = d.length + 2 := by
  simp only [segment, List.length_append, beBytes_length]
  omega

theorem segment_drop (item k : Nat) (d : List Byte) : (segment item k d).drop 2 = d := rfl

theorem segment_fields (item k : Nat) (d : List Byte) :
    fieldNat (segment item k d) 0 1 = item % 256 ∧ fieldNat (segment item k d) 1 1 = k % 256 := by
  unfold segment
  rw [List.append_assoc]
  exact ⟨fieldNat_beBytes 1 .., by rw [fieldNat_beBytes_skip 1 _ _ 0 1, fieldNat_beBytes, Nat.pow_one]⟩

section Segments

variable {item more n : Nat} {d : List Byte}

/-- R184: the last segment. -/
theorem segmentsFrom_short (h : d.length ≤ 6) : segmentsFrom item more n d = [segment item (n + 128) d] := by
  cases more with
  | zero => rfl
  | succ more => exact if_pos h

/-- R184: a segment that is not the last. -/
theorem segmentsFrom_long (h : ¬d.length ≤ 6) :
    segmentsFrom item (more + 1) n d = segment item n (d.take 6) :: segmentsFrom item more (n + 1) (d.drop 6) :=
      if_neg h

theorem segmentsFrom_flatMap (h : d.length ≤ 6 * (more + 1)) : (segmentsFrom item more n d).flatMap (·.drop 2) = d := by
  induction more generalizing n d with
  | zero => rw [segmentsFrom_short (by omega), List.flatMap_singleton, segment_drop]
  | succ more ih =>
    by_cases hd : d.length ≤ 6
    · rw [segmentsFrom_short hd, List.flatMap_singleton, segment_drop]
    · rw [segmentsFrom_long hd, List.flatMap_cons, segment_drop, ih (by rw [List.length_drop]; omega),
        List.take_append_drop]

theorem segmentsFrom_length (h : d.length ≤ 6 * (more + 1)) :
    (segmentsFrom item more n d).length = max 1 ((d.length + 5) / 6) := by
  induction more generalizing n d with
  | zero =>
    rw [segmentsFrom_short (by omega), List.length_singleton]
    omega
  | succ more ih =>
    by_cases hd : d.length ≤ 6
    · rw [segmentsFrom_short hd, List.length_singleton]
      omega
    · rw [segmentsFrom_long hd, List.length_cons, ih (by rw [List.length_drop]; omega), List.length_drop]
      omega

/-- R184: what segment `i` of the segments from number `n` on carries; the last one alone has bit 7. -/
def SegmentAt (item n count i : Nat) (g : List Byte) : Prop :=
  g.length ≤ 8 ∧ fieldNat g 0 1 = item % 256 ∧ fieldNat g 1 1 = (if i + 1 = count then n + i + 128 else n + i) ∧
    (i + 1 < count → g.length = 8)

theorem segmentAt_last (hd : d.length ≤ 6) (hn : n < 128) : SegmentAt item n 1 0 (segment item (n + 128) d) := by
  obtain ⟨h0, h1⟩ := segment_fields item (n + 128) d
  refine ⟨by rw [segment_length]; omega, h0, ?_, fun k => absurd k (by omega)⟩
  rw [h1, if_pos rfl]
  omega

theorem segmentsFrom_getElem_short (hd : d.length ≤ 6) (hn : n < 128) {i : Nat} {g : List Byte}
    (hg : (segmentsFrom item more n d)[i]? = some g) : SegmentAt item n (segmentsFrom item more n d).length i g := by
  rw [segmentsFrom_short hd] at hg ⊢
  obtain ⟨rfl, rfl⟩ : i = 0 ∧ _ = g := by simpa [List.getElem?_singleton] using hg
  exact segmentAt_last hd hn

/-- R184: the segments from number `n` on, one by one. -/
theorem segmentsFrom_getElem (h : d.length ≤ 6 * (more + 1)) (hn : n + more < 128) {i : Nat} {g : List Byte}
    (hg : (segmentsFrom item more n d)[i]? = some g) : SegmentAt item n (segmentsFrom item more n d).length i g := by
  induction more generalizing n d i with
  | zero => exact segmentsFrom_getElem_short (by omega) hn hg
  | succ more ih =>
    by_cases hd : d.length ≤ 6
    · exact segmentsFrom_getElem_short hd (by omega) hg
    have hrest : (d.drop 6).length ≤ 6 * (more + 1) := by rw [List.length_drop]; omega
    have hlen := segmentsFrom_length (item := item) (n := n + 1) hrest
    rw [segmentsFrom_long hd] at hg ⊢
    rw [List.length_cons]
    cases i with
    | zero =>
      obtain rfl : _ = g := by simpa using hg
      obtain ⟨h0, h1⟩ := segment_fields item n (d.take 6)
      have h6 : (d.take 6).length = 6 := by rw [List.length_take]; omega
      refine ⟨by rw [segment_length]; omega, h0, ?_, fun _ => by rw [segment_length]; omega⟩
      rw [h1, if_neg (by omega)]
      omega
    | succ i =>
      obtain ⟨hl, h0, h1, h8⟩ := ih (n := n + 1) hrest (by omega) (i := i) (by simpa using hg)
      refine ⟨hl, h0, ?_, fun k => h8 (by omega)⟩
      rw [h1]
      split <;> split <;> omega

end Segments

@[simp] theorem beBytesOpt_length (w : Nat) (n : Option Nat) : (beBytesOpt w n).length = w := beBytes_length w _

@[simp] theorem beBytesInt_length (w : Nat) (i : Int) : (beBytesInt w i).length = w := beBytes_length w _

@[simp] theorem beBytesIntOpt_length (i : Option Int) : (beBytesIntOpt i).length = 2 := beBytes_length 2 _

@[simp] theorem resultField_length (field seq : Nat) (v : Option Nat) : (resultField field seq v).length = 2 :=
  beBytes_length 2 _

/-- R178: the lengths of the summary pages. -/
theorem State.summary_length_le (s : State) (page : Nat) : (s.summary page).length ≤ 24 := by
  unfold State.summary
  split
  · simp [State.page0]
  · simp [State.page1]
  · simp [State.page2]
  · simp [State.page3]
  · exact Nat.zero_le _

theorem State.tripItem_length (s : State) : s.tripItem.length = 12 := by simp [State.tripItem]

theorem Record.item_length (r : Record) : r.item.length = 19 := by simp [Record.item]

theorem State.resultItem_length_le (s : State) : s.resultItem.length ≤ 19 := by
  unfold State.resultItem
  cases s.csq.log.head? with
  | none => exact Nat.zero_le _
  | some r => exact (Record.item_length r).le

theorem Peer.item_length (now : Nat) (p : Peer) : (p.item now).length = 17 := by simp [Peer.item]

/-- R140: a REPLY that finds a place joins the end of the queue. -/
theorem Tbc.order_reply (d : List Byte) {t : Tbc} (hs : t.can.sends = true) (hq : t.queue.length < 24) :
    t.order (.reply d) = { t with queue := t.queue ++ [⟨.reply d, some 1000⟩] } := by
  simp [Tbc.order, hs, hq, TxBody.bidding, TxBody.isStatus]

/-- R140: segments that find their places join the end of the queue, in order. -/
theorem Tbc.reply_eq (segs : List (List Byte)) {t : Tbc} (hs : t.can.sends = true)
    (hq : t.queue.length + segs.length ≤ 24) :
    t.reply segs = { t with queue := t.queue ++ segs.map fun d => ⟨.reply d, some 1000⟩ } := by
  induction segs generalizing t with
  | nil => rw [List.map_nil, List.append_nil]; rfl
  | cons d rest ih =>
    rw [List.length_cons] at hq
    show (t.order (.reply d)).reply rest = _
    rw [Tbc.order_reply d hs (by omega),
      ih (by exact hs) (by simp only [List.length_append, List.length_singleton]; omega),
      List.append_assoc]
    rfl

/-- Settles O45: segments by induction on how many may follow, items by their parts, replies one by one. -/
theorem segmentsCarryTheItem : Obligations.SegmentsCarryTheItem := by
  refine ⟨fun item d h => ⟨segmentsFrom_flatMap h, segmentsFrom_length h, fun i g hg => ?_⟩, fun s page now p =>
    ⟨s.summary_length_le page, s.tripItem_length, s.resultItem_length_le, p.item_length now⟩, fun segs t hs hq => ?_⟩
  · have k : SegmentAt item 0 (segments item d).length i g := segmentsFrom_getElem h (by omega) hg
    obtain ⟨hl, h0, h1, h8⟩ := k
    rw [Nat.zero_add] at h1
    exact ⟨hl, h0, h1, h8⟩
  · rw [Tbc.reply_eq segs hs hq]

end Sys2Proof.Machine

namespace Sys2Proof.Machine

/-! ## Share arithmetic -/

/-! ### The ranking and its walk -/

/-- R167: the order of candidates. -/
theorem Candidate.before_iff {a b : Candidate} :
    a.before b = true ↔ b.uq < a.uq ∨ a.uq = b.uq ∧ a.berth < b.berth := by
  simp [Candidate.before]

theorem Candidate.before_irrefl (a : Candidate) : a.before a = false := by
  rw [Bool.eq_false_iff, ne_eq, Candidate.before_iff]
  omega

theorem Candidate.before_asymm {a b : Candidate} (h : a.before b = true) : b.before a = false := by
  rw [Candidate.before_iff] at h
  rw [Bool.eq_false_iff, ne_eq, Candidate.before_iff]
  omega

theorem Candidate.before_trans {a b c : Candidate} (h : a.before b = true) (k : b.before c = true) :
    a.before c = true := by
  rw [Candidate.before_iff] at *
  omega

/-- Of two candidates with different berths, one is before the other. -/
theorem Candidate.before_of_not {a b : Candidate} (hne : a.berth ≠ b.berth) (h : ¬a.before b = true) :
    b.before a = true := by
  rw [Candidate.before_iff] at *
  omega

/-- R167: a candidate takes its place as in an insertion sort. -/
theorem rankIn_eq (a : Candidate) (l : List Candidate) :
    rankIn a l = l.orderedInsert (fun a b => a.before b = true) a := by
  induction l with
  | nil => rfl
  | cons b rest ih => rw [rankIn, List.orderedInsert_cons, ih]

theorem ranked_perm (l : List Candidate) : (ranked l).Perm l := by
  induction l with
  | nil => exact List.Perm.refl _
  | cons a rest ih =>
    show (rankIn a (ranked rest)).Perm _
    rw [rankIn_eq]
    exact (List.perm_orderedInsert _ a _).trans (ih.cons a)

theorem mem_rankIn {a b : Candidate} {l : List Candidate} : b ∈ rankIn a l ↔ b = a ∨ b ∈ l := by
  rw [rankIn_eq, List.mem_orderedInsert]

theorem rankIn_pairwise {a : Candidate} {l : List Candidate} (h : l.Pairwise fun a b => a.before b = true)
    (ha : ∀ b ∈ l, b.berth ≠ a.berth) : (rankIn a l).Pairwise fun a b => a.before b = true := by
  induction l with
  | nil => exact List.pairwise_singleton _ _
  | cons b rest ih =>
    obtain ⟨hb, hrest⟩ := List.pairwise_cons.mp h
    unfold rankIn
    split
    next hab =>
      refine List.pairwise_cons.mpr ⟨fun c hc => ?_, h⟩
      obtain rfl | hc := List.mem_cons.mp hc
      · exact hab
      · exact Candidate.before_trans hab (hb c hc)
    next hab =>
      refine List.pairwise_cons.mpr ⟨fun c hc => ?_, ih hrest fun c hc => ha c (List.mem_cons_of_mem _ hc)⟩
      obtain rfl | hc := mem_rankIn.mp hc
      · exact Candidate.before_of_not (ha b List.mem_cons_self).symm hab
      · exact hb c hc

theorem ranked_pairwise {l : List Candidate} (h : (l.map fun a => a.berth).Nodup) :
    (ranked l).Pairwise fun a b => a.before b = true := by
  induction l with
  | nil => exact List.Pairwise.nil
  | cons a rest ih =>
    rw [List.map_cons, List.nodup_cons] at h
    obtain ⟨ha, hrest⟩ := h
    refine rankIn_pairwise (ih hrest) fun b hb e => ha ?_
    rw [← e]
    exact List.mem_map_of_mem ((ranked_perm rest).mem_iff.mp hb)

/-- R167: a berth that is not ranked is given nothing. -/
theorem walkShare_of_absent {n : Nat} {l : List Candidate} (h : ∀ a ∈ l, a.berth ≠ n) (pool : Nat) :
    walkShare n l pool = 0 := by
  induction l generalizing pool with
  | nil => rfl
  | cons a rest ih =>
    rw [walkShare, if_neg (h a List.mem_cons_self)]
    exact ih (fun b hb => h b (List.mem_cons_of_mem _ hb)) _

/-- R167: what a ranked berth is given: the lesser of its charge demand and what those before it leave. -/
theorem walkShare_of_sorted {l : List Candidate} (hs : l.Pairwise fun a b => a.before b = true) {a : Candidate}
    (ha : a ∈ l) (hn : ∀ b ∈ l, b.berth = a.berth → b = a) (pool : Nat) :
    walkShare a.berth l pool = min a.cd (pool - ((l.filter fun b => b.before a).map fun b => b.cd).sum) := by
  induction l generalizing pool with
  | nil => exact absurd ha List.not_mem_nil
  | cons b rest ih =>
    obtain ⟨hb, hrest⟩ := List.pairwise_cons.mp hs
    rw [walkShare]
    split
    next he =>
      obtain rfl := hn b List.mem_cons_self he
      have none : (b :: rest).filter (fun c => c.before b) = [] := by
        rw [List.filter_eq_nil_iff]
        intro c hc
        obtain rfl | hc := List.mem_cons.mp hc
        · rw [Candidate.before_irrefl]; exact Bool.false_ne_true
        · rw [Candidate.before_asymm (hb c hc)]; exact Bool.false_ne_true
      rw [none]
      rfl
    next he =>
      have ha : a ∈ rest := (List.mem_cons.mp ha).resolve_left fun e => he (congrArg Candidate.berth e.symm)
      rw [ih hrest ha (fun c hc => hn c (List.mem_cons_of_mem _ hc)), List.filter_cons_of_pos (p := fun c : Candidate =>
        c.before a) (hb a ha), List.map_cons,
        List.sum_cons]
      omega

/-- Settles O55: an insertion sort by a strict order, walked in that order. -/
theorem rankingOrdersCandidates : Obligations.RankingOrdersCandidates := by
  intro l pool hl
  have hp := ranked_perm l
  refine ⟨hp, ranked_pairwise hl, fun a ha => ?_, fun n hn =>
    walkShare_of_absent (fun a ha => hn a (hp.mem_iff.mp ha)) pool⟩
  have same (b : Candidate) (hb : b ∈ ranked l) (e : b.berth = a.berth) : b = a :=
    List.inj_on_of_nodup_map hl (hp.mem_iff.mp hb) ha e
  rw [walkShare_of_sorted (ranked_pairwise hl) (hp.mem_iff.mpr ha) same]
  have hsum := ((hp.filter fun b => b.before a).map fun b => b.cd).sum_eq
  rw [hsum]

/-! ### The figures of a pass -/

/-- The quotient rounded up, as the least number that covers the dividend. -/
theorem divUp_spec {n d : Nat} (hd : 0 < d) : n ≤ divUp n d * d ∧ divUp n d * d < n + d := by
  have h := Nat.div_add_mod (n + d - 1) d
  have hm := Nat.mod_lt (n + d - 1) hd
  rw [Nat.mul_comm] at h
  unfold divUp
  omega

theorem up10Div_eq (n d : Nat) : up10Div n d = divUp n (10 * d) * 10 := rfl

theorem requiredRate_of_pos {e t : Nat} (he : 0 < e) (ht : 0 < t) :
    requiredRate (some e) (some t) = min 65535 (divUp (e * 60) t) := by
  obtain ⟨e, rfl⟩ := Nat.exists_eq_succ_of_ne_zero he.ne'
  obtain ⟨t, rfl⟩ := Nat.exists_eq_succ_of_ne_zero ht.ne'
  rfl

theorem down10_mod (n : Nat) : down10 n % 10 = 0 := Nat.mul_mod_left _ _

theorem down10_le (n : Nat) : down10 n ≤ n := Nat.div_mul_le_self n 10

/-- R167: with no charge demand of its own, a berth that no peer entry names is not ranked. -/
theorem candidates_absent {own uq : Nat} {peers : List Peer} (h : ∀ p ∈ peers, p.berth ≠ own) :
    ∀ a ∈ candidates own uq 0 peers, a.berth ≠ own := by
  intro a ha
  obtain ⟨p, hp, rfl⟩ := List.mem_map.mp (by simpa only [candidates, if_neg (Nat.lt_irrefl 0),
    List.nil_append] using ha)
  exact h p (List.mem_filter.mp hp).1

section Target

variable (s : State) (uq cd : Nat) (pool : Int)

theorem State.targetForcedZero_iff : s.targetForcedZero pool = true ↔
    pool ≤ 0 ∨ (s.csq.state ≠ .shore ∧ s.csq.state ≠ .releaseWait) ∨ s.slc.holdExpired = true ∨
      s.overcommitted = true := by
  simp [State.targetForcedZero, or_assoc]

theorem State.ownTarget_of_forced (h : s.targetForcedZero pool = true) : s.ownTarget uq cd pool = 0 := if_pos h

theorem State.ownTarget_of_walked (h : ¬s.targetForcedZero pool = true) : s.ownTarget uq cd pool =
    down10 (min (walkShare s.own (ranked (candidates s.own uq cd s.tbc.peers)) pool.toNat) (s.figs.r - s.clu.kf)) :=
  if_neg h

/-- R168: the target within its bounds. -/
theorem State.ownTarget_within : s.ownTarget uq cd pool % 10 = 0 ∧ s.ownTarget uq cd pool ≤ s.figs.r - s.clu.kf := by
  by_cases h : s.targetForcedZero pool = true
  · rw [s.ownTarget_of_forced uq cd pool h]
    exact ⟨rfl, Nat.zero_le _⟩
  · rw [s.ownTarget_of_walked uq cd pool h]
    exact ⟨down10_mod _, (down10_le _).trans (Nat.min_le_right _ _)⟩

theorem State.ownTarget_of_no_demand (h : ∀ p ∈ s.tbc.peers, p.berth ≠ s.own) : s.ownTarget uq 0 pool = 0 := by
  by_cases hf : s.targetForcedZero pool = true
  · exact s.ownTarget_of_forced uq 0 pool hf
  · rw [s.ownTarget_of_walked uq 0 pool hf,
      walkShare_of_absent fun a ha => candidates_absent h a ((ranked_perm _).mem_iff.mp ha),
      Nat.zero_min]
    rfl

end Target

/-- R169: the three decisions by the bounds between them. -/
theorem decideShare_cases (tc : Nat) (c : Clu) :
    (tc < c.kc ∧ decideShare tc c = .lower (c.kf + tc)) ∨
      (c.kc + 50 ≤ tc ∧ decideShare tc c = .raise (c.kf + c.kc + min (tc - c.kc) 500)) ∨
      (c.kc ≤ tc ∧ tc < c.kc + 50 ∧ decideShare tc c = .noChange) := by
  unfold decideShare
  split
  next h => exact .inl ⟨h, rfl⟩
  split
  next h => exact .inr (.inl ⟨h, rfl⟩)
  next h k => exact .inr (.inr ⟨by omega, by omega, rfl⟩)

/-- Settles O54: roundings by what a quotient rounded up is, the target by whether the ranking is walked. -/
theorem shareFiguresAndDecision : Obligations.ShareFiguresAndDecision := by
  refine ⟨fun h r => ⟨up10Div (h * 11) 10, ?floor⟩, fun e t he ht => ⟨divUp (e * 60) t, ?rate⟩, fun e t he => ?bounds,
    fun u => ⟨divUp u 20, ?urgency⟩, fun s uq cd pool => ?target, fun tc c => ?decision⟩
  case floor =>
    obtain ⟨hlow, hhigh⟩ := divUp_spec (n := h * 11) (d := 100) (by omega)
    have hm : up10Div (h * 11) 10 = divUp (h * 11) 100 * 10 := up10Div_eq _ _
    exact ⟨Nat.mul_mod_left _ _, by omega, by omega, rfl⟩
  case rate =>
    obtain ⟨hlow, hhigh⟩ := divUp_spec (n := e * 60) ht
    exact ⟨hlow, hhigh, requiredRate_of_pos he ht⟩
  case bounds =>
    obtain ⟨e, rfl⟩ := Nat.exists_eq_succ_of_ne_zero he.ne'
    exact ⟨rfl, rfl, rfl, rfl⟩
  case urgency =>
    obtain ⟨hlow, hhigh⟩ := divUp_spec (n := u) (d := 20) (by omega)
    exact ⟨by omega, by omega, rfl⟩
  case target =>
    obtain ⟨hmod, hle⟩ := s.ownTarget_within uq cd pool
    exact ⟨hmod, hle, fun h => s.ownTarget_of_forced uq cd pool ((s.targetForcedZero_iff pool).mpr h),
      s.ownTarget_of_no_demand uq pool⟩
  case decision =>
    obtain ⟨h, e⟩ | ⟨h, e⟩ | ⟨h, k, e⟩ := decideShare_cases tc c
    all_goals
      simp only [e, Decision.raise.injEq, reduceCtorEq, true_iff, false_iff, not_and, not_lt]
      refine ⟨by omega, fun k => ?_, by omega⟩
      omega

end Sys2Proof.Machine

namespace Sys2Proof.Machine

/-! ## Attempt points of the claim unit -/

section Attempt

variable {s : State}

/-- R152: the state in which an attempt point looks for a wish. -/
def State.refreshed (s : State) : State := s.setClu (s.clu.refreshFloor s.shc.fr)

/-- R152: taking the pending floor afresh changes it alone. -/
theorem Clu.refreshFloor_eq (fr : Nat) (c : Clu) : ∃ f, c.refreshFloor fr = { c with pendingFloor := f } := by
  unfold Clu.refreshFloor
  split
  · exact ⟨some fr, rfl⟩
  · exact ⟨c.pendingFloor, rfl⟩

/-- R146: what an attempt point can do: nothing more than take the pending floor afresh, or make a bid that is not blocked
and passes its test. -/
theorem Clu.attempt_cases (s : State) :
    (Clu.attempt s).1 = s.refreshed ∨
      (s.refreshed.bidBlocked = false ∧ ∃ kind k, s.refreshed.wishPasses kind k = true ∧
        (Clu.attempt s).1 = (Clu.makeBid kind k s.refreshed).1) := by
  have e : (Clu.put (s.clu.refreshFloor s.shc.fr) s).1 = s.refreshed := rfl
  unfold Clu.attempt
  rw [Out.andThen_fst, e]
  split
  · exact .inl rfl
  next hb =>
    split
    next kind k _ =>
      split
      next hp => exact .inr ⟨Bool.eq_false_iff.mpr hb, kind, k, hp, rfl⟩
      · exact .inl rfl
    · exact .inl rfl

theorem Clu.takeWish_frame (kind : OwnKind) (c : Clu) : (c.takeWish kind).kf = c.kf ∧ (c.takeWish kind).kc = c.kc ∧
    (c.takeWish kind).nextSerial = c.nextSerial := by
  unfold Clu.takeWish
  split <;> exact ⟨rfl, rfl, rfl⟩

theorem Clu.committed_bid (kind : OwnKind) (k : Nat) (c : Clu) : (c.committed kind k).bid = none := by
  unfold Clu.committed
  split <;> rfl

/-- R160: in solitary mode a bid commits as it is made. -/
theorem Clu.makeBid_bid_of_solitary (kind : OwnKind) (k : Nat) (h : s.figs.solitary = true) :
    (Clu.makeBid kind k s).1.clu.bid = none := by
  unfold Clu.makeBid
  simp only [if_pos h]
  exact Clu.committed_bid kind k _

/-- R147: elsewhere it is QUEUED with the next serial. -/
theorem Clu.makeBid_of_shared (kind : OwnKind) (k : Nat) (h : ¬s.figs.solitary = true) :
    (Clu.makeBid kind k s).1.clu =
      { s.clu.takeWish kind with
        bid := some ⟨kind, s.clu.nextSerial, k, none⟩, nextSerial := serialAfter s.clu.nextSerial } := by
  obtain ⟨-, -, hserial⟩ := Clu.takeWish_frame kind s.clu
  unfold Clu.makeBid
  simp only [if_neg h, hserial]
  rfl

theorem State.refreshed_clu (s : State) : ∃ f, s.refreshed.clu = { s.clu with pendingFloor := f } :=
  Clu.refreshFloor_eq s.shc.fr s.clu

/-- R146: the conditions under which no bid is made. -/
theorem State.refreshed_bidBlocked (h : s.csq.state = .start ∨ s.tbc.busLost = true ∨ s.slc.link ≠ .up ∨
    s.tbc.duplicate = true ∨ s.clu.backoff.isSome = true ∨ s.clu.bid.isSome = true ∨ s.refreshed.overcommitted = true) :
    s.refreshed.bidBlocked = true := by
  obtain ⟨f, hf⟩ := s.refreshed_clu
  have hback : s.refreshed.clu.backoff = s.clu.backoff := by rw [hf]
  have hbid : s.refreshed.clu.bid = s.clu.bid := by rw [hf]
  have hs : s.refreshed.csq = s.csq := rfl
  have ht : s.refreshed.tbc = s.tbc := rfl
  have hl : s.refreshed.slc = s.slc := rfl
  unfold State.bidBlocked
  rw [hback, hbid, hs, ht, hl]
  rcases h with h | h | h | h | h | h | h <;> simp [h]

theorem State.refreshed_wishPasses (kind : OwnKind) (k : Nat) : s.refreshed.wishPasses kind k = s.wishPasses kind k :=
    by
  obtain ⟨f, hf⟩ := s.refreshed_clu
  have hl : s.refreshed.clu.stepList = s.clu.stepList := by rw [hf]
  cases kind with
  | step =>
    show (_ && s.refreshed.clu.stepList.all _) = _
    rw [hl]
    rfl
  | claim _ => rfl

end Attempt

/-- Settles O53: by the two outcomes of an attempt point, and for a bid made by the mode. -/
theorem attemptBidsWithinAvail : Obligations.AttemptBidsWithinAvail := by
  intro s t
  obtain ⟨f, hf⟩ := s.refreshed_clu
  rcases Clu.attempt_cases s with e | ⟨hb, kind, k, hp, e⟩
  · have ht : t.clu = { s.clu with pendingFloor := f } := by rw [← hf, ← e]; rfl
    rw [ht]
    exact ⟨fun _ => ⟨rfl, rfl, rfl⟩, fun w hn hw => absurd (hn.symm.trans hw) (by simp), fun h => absurd rfl h⟩
  · have ht : t = (Clu.makeBid kind k s.refreshed).1 := e
    refine ⟨fun h => absurd (hb.symm.trans (State.refreshed_bidBlocked h)) Bool.false_ne_true, fun w _ hw => ?_,
      fun hk => ?_⟩
    · by_cases hsol : s.refreshed.figs.solitary = true
      · exact absurd ((Clu.makeBid_bid_of_solitary kind k hsol).symm.trans (ht ▸ hw)) (by simp)
      rw [ht, Clu.makeBid_of_shared kind k hsol] at *
      obtain rfl : _ = w := Option.some.inj hw
      rw [State.refreshed_wishPasses] at hp
      have hserial : s.refreshed.clu.nextSerial = s.clu.nextSerial := by rw [hf]
      refine ⟨rfl, hserial, rfl, fun hs => ?_, fun hs => ?_⟩
      · cases kind with
        | step => exact absurd rfl hs
        | claim b => exact of_decide_eq_true hp
      · obtain rfl : kind = .step := hs
        exact hp
    · by_contra hsol
      obtain ⟨hkf, hkc, -⟩ := Clu.takeWish_frame kind s.refreshed.clu
      refine hk ?_
      rw [ht, Clu.makeBid_of_shared (s := s.refreshed) kind k hsol]
      show (s.refreshed.clu.takeWish kind).kf + (s.refreshed.clu.takeWish kind).kc = _
      rw [hkf, hkc, hf]
      rfl

end Sys2Proof.Machine

namespace Sys2Proof.Machine

/-! ## Windows, step holds and frames of the peers -/

/-! ### The step list, record by record -/

section StepList

variable {b n : Nat} {f : StepRec → StepRec} {l : List StepRec}

/-- R157: the berth numbers of the step list rise. -/
def StepsSorted (l : List StepRec) : Prop := (l.map fun r => r.berth).Pairwise (· < ·)

/-- R157: a record that stays in the list. -/
def StepRec.kept (r : StepRec) : Bool := r.bid.isSome || r.hold.isSome

theorem findStep_cons_self {r : StepRec} (h : r.berth = n) : findStep n (r :: l) = some r :=
  List.find?_cons_of_pos (by simpa using h)

theorem findStep_cons_other {r : StepRec} (h : r.berth ≠ n) : findStep n (r :: l) = findStep n l :=
  List.find?_cons_of_neg (by simpa using h)

theorem findStep_putStep_self (r : StepRec) (l : List StepRec) : findStep r.berth (putStep r l) = some r := by
  induction l with
  | nil => exact findStep_cons_self rfl
  | cons q rest ih =>
    unfold putStep
    split
    · exact findStep_cons_self rfl
    next hq =>
      split
      · exact findStep_cons_self rfl
      · rw [findStep_cons_other hq, ih]

theorem findStep_putStep_other {r : StepRec} (h : n ≠ r.berth) (l : List StepRec) :
    findStep n (putStep r l) = findStep n l := by
  induction l with
  | nil => exact findStep_cons_other h.symm
  | cons q rest ih =>
    unfold putStep
    split
    next hq => rw [findStep_cons_other h.symm, findStep_cons_other (hq ▸ h.symm)]
    split
    · exact findStep_cons_other h.symm
    · by_cases hn : q.berth = n
      · rw [findStep_cons_self hn, findStep_cons_self hn]
      · rw [findStep_cons_other hn, findStep_cons_other hn, ih]

theorem mem_putStep_of_other {q r : StepRec} (h : q ∈ l) (hne : q.berth ≠ r.berth) : q ∈ putStep r l := by
  induction l with
  | nil => exact absurd h List.not_mem_nil
  | cons p rest ih =>
    unfold putStep
    obtain rfl | h := List.mem_cons.mp h
    · rw [if_neg hne]
      split
      · exact List.mem_cons_of_mem _ List.mem_cons_self
      · exact List.mem_cons_self
    · split
      · exact List.mem_cons_of_mem _ h
      split
      · exact List.mem_cons_of_mem _ (List.mem_cons_of_mem _ h)
      · exact List.mem_cons_of_mem _ (ih h)

theorem tidySteps_cons (q : StepRec) (l : List StepRec) :
    tidySteps (q :: l) = if q.kept = true then q :: tidySteps l else tidySteps l := List.filter_cons

theorem findStep_tidySteps_of_kept {r : StepRec} (h : findStep n l = some r) (hk : r.kept = true) :
    findStep n (tidySteps l) = some r := by
  induction l with
  | nil => exact absurd h (by simp [findStep])
  | cons q rest ih =>
    rw [tidySteps_cons]
    by_cases hq : q.berth = n
    · obtain rfl : q = r := Option.some.inj ((findStep_cons_self hq).symm.trans h)
      rw [if_pos hk]
      exact findStep_cons_self hq
    · rw [findStep_cons_other hq] at h
      split
      · rw [findStep_cons_other hq]
        exact ih h
      · exact ih h

theorem findStep_none_of_sorted {q : StepRec} (h : StepsSorted (q :: l)) : findStep q.berth l = none := by
  unfold StepsSorted at h
  rw [List.map_cons, List.pairwise_cons] at h
  refine List.find?_eq_none.mpr fun r hr => ?_
  have := h.1 r.berth (List.mem_map_of_mem hr)
  simp
  omega

/-- R157: tidying a sorted list drops the record of a berth exactly when it is empty. -/
theorem findStep_tidySteps (h : StepsSorted l) : findStep n (tidySteps l) = (findStep n l).filter StepRec.kept := by
  induction l with
  | nil => rfl
  | cons q rest ih =>
    have ih := ih (List.Pairwise.tail h)
    rw [tidySteps_cons]
    by_cases hq : q.berth = n
    · subst hq
      rw [findStep_cons_self rfl]
      split
      next hk => rw [findStep_cons_self rfl, Option.filter_some_pos hk]
      next hk =>
        rw [ih, findStep_none_of_sorted h, Option.filter_some_neg (Bool.eq_false_iff.mpr hk)]
        rfl
    · rw [findStep_cons_other hq]
      split
      · rw [findStep_cons_other hq, ih]
      · exact ih

theorem putStep_sorted (r : StepRec) (h : StepsSorted l) : StepsSorted (putStep r l) := putStep_pairwise h

theorem updateStep_sorted (h : StepsSorted l) : StepsSorted (updateStep b f l) :=
  (putStep_pairwise h).sublist (List.filter_sublist.map _)

/-- R157: the record of berth `b`, empty where there is none. -/
def stepOf (b : Nat) (l : List StepRec) : StepRec := (findStep b l).getD ⟨b, none, none⟩

theorem stepOf_berth (b : Nat) (l : List StepRec) : (stepOf b l).berth = b := findStep_getD_berth b l

theorem stepOf_bid (b : Nat) (l : List StepRec) : (stepOf b l).bid = (findStep b l).bind (·.bid) := by
  unfold stepOf
  cases findStep b l <;> rfl

theorem stepOf_hold (b : Nat) (l : List StepRec) :
    (stepOf b l).hold.isSome = (findStep b l).any fun r => r.hold.isSome := by
  unfold stepOf
  cases findStep b l <;> rfl

variable (hf : ∀ r, (f r).berth = r.berth)
include hf

/-- R157: a change of a berth's record that leaves something in it. -/
theorem findStep_updateStep_of_kept (hk : (f (stepOf b l)).kept = true) :
    findStep b (updateStep b f l) = some (f (stepOf b l)) := by
  refine findStep_tidySteps_of_kept ?_ hk
  have h := findStep_putStep_self (f (stepOf b l)) l
  rwa [hf, stepOf_berth] at h

theorem findStep_updateStep (h : StepsSorted l) : findStep n (updateStep b f l) =
    (if n = b then some (f (stepOf b l)) else findStep n l).filter StepRec.kept := by
  have hb : (f (stepOf b l)).berth = b := (hf _).trans (stepOf_berth b l)
  have e : findStep n (updateStep b f l) = (findStep n (putStep (f (stepOf b l)) l)).filter StepRec.kept :=
    findStep_tidySteps (putStep_sorted _ h)
  rw [e]
  split
  next hn =>
    subst hn
    have hself := findStep_putStep_self (f (stepOf n l)) l
    rw [hb] at hself
    rw [hself]
  next hn => rw [findStep_putStep_other (by rw [hb]; exact hn)]

/-- R157: the open step bids after a change of one record. -/
theorem stepBid_updateStep (h : StepsSorted l) : (findStep n (updateStep b f l)).bind (·.bid) =
    if n = b then (f (stepOf b l)).bid else (findStep n l).bind (·.bid) := by
  have filtered (o : Option StepRec) : (o.filter StepRec.kept).bind (·.bid) = o.bind (·.bid) := by
    cases o with
    | none => rfl
    | some r =>
      by_cases hk : r.kept = true
      · rw [Option.filter_some_pos hk]
      · rw [Option.filter_some_neg (Bool.eq_false_iff.mpr hk)]
        have : r.bid = none := by simp [StepRec.kept] at hk; exact hk.1
        exact this.symm
  rw [findStep_updateStep hf h, filtered]
  split <;> rfl

/-- R157: the step holds of the list after a change of one record. -/
theorem stepHold_updateStep (h : StepsSorted l) : ((findStep n (updateStep b f l)).any fun r => r.hold.isSome) =
    if n = b then (f (stepOf b l)).hold.isSome else (findStep n l).any fun r => r.hold.isSome := by
  have filtered (o : Option StepRec) :
      ((o.filter StepRec.kept).any fun r => r.hold.isSome) = o.any fun r => r.hold.isSome := by
    cases o with
    | none => rfl
    | some r =>
      by_cases hk : r.kept = true
      · rw [Option.filter_some_pos hk]
      · rw [Option.filter_some_neg (Bool.eq_false_iff.mpr hk)]
        have : r.hold = none := by simp [StepRec.kept] at hk; exact hk.2
        simp [this]
  rw [findStep_updateStep hf h, filtered]
  split <;> rfl

end StepList

end Sys2Proof.Machine

namespace Sys2Proof.Machine

/-! ### The ends of windows and holds -/

section Windows

variable {s : State} {n : Nat}

theorem Peer.endBid_of_objected {p : Peer} {e : OpenBid} (he : p.bid = some e) (h : e.objected = true) :
    p.endBid = { p with bid := none } := by
  simp [Peer.endBid, he, h]

/-- R151: a charge bid that stands is adopted as the claim. -/
theorem Peer.endBid_of_charge {p : Peer} {e : OpenBid} (he : p.bid = some e) (h : e.objected = false)
    (hk : e.kind = .charge) : p.endBid = { p with bid := none, k := e.k } := by
  simp [Peer.endBid, he, h, hk]

/-- R151: any other bid that stands is adopted as the floor too. -/
theorem Peer.endBid_of_floor {p : Peer} {e : OpenBid} (he : p.bid = some e) (h : e.objected = false)
    (hk : e.kind ≠ .charge) : p.endBid = { p with bid := none, k := e.k, floor := e.k, floorPending := false } := by
  cases hkind : e.kind with
  | charge => exact absurd hkind hk
  | _ => simp [Peer.endBid, he, h, hkind]

theorem Clu.peerWindowEnd_of_open {p : Peer} {e : OpenBid} (hp : findPeer n s.tbc.peers = some p)
    (he : p.bid = some e) :
    Clu.peerWindowEnd n s =
      (s.setTbc { s.tbc with peers := updatePeer n Peer.endBid s.tbc.peers }, [.cluAttempt]) := by
  unfold Clu.peerWindowEnd State.peerBidOpen
  simp [hp, he]

theorem findPeer_endBid (m : Nat) (l : List Peer) :
    findPeer m (updatePeer n Peer.endBid l) = if m = n then (findPeer m l).map Peer.endBid else findPeer m l :=
  findPeer_updatePeer n m Peer.endBid Peer.endBid_berth l

/-! #### Step bids and step holds -/

/-- R157: a removed step bid. -/
theorem State.dropStepBid_stepBidOf (h : StepsSorted s.clu.stepList) : (s.dropStepBid n).stepBidOf n = none :=
  (stepBid_updateStep (n := n) (f := fun r => { r with bid := none }) (fun _ => rfl) h).trans (if_pos rfl)

/-- R157: a removed step bid leaves the step holds. -/
theorem State.dropStepBid_holdRecorded (h : StepsSorted s.clu.stepList) (m : Nat) :
    (s.dropStepBid n).holdRecorded m = s.holdRecorded m := by
  have e := stepHold_updateStep (b := n) (n := m) (f := fun r => { r with bid := none }) (fun _ => rfl) h
  unfold State.holdRecorded
  refine congrArg ((findPeer m s.tbc.peers).any (fun p => p.stepHold.isSome) || ·) (e.trans ?_)
  split
  next hm => rw [hm]; exact stepOf_hold n s.clu.stepList
  · rfl

theorem State.recordHold_stepBidOf (h : StepsSorted s.clu.stepList) (hn : s.stepBidOf n = none) :
    (s.recordHold n).stepBidOf n = none := by
  unfold State.recordHold
  split
  · exact hn
  · refine (stepBid_updateStep (n := n) (f := fun r => { r with hold := some s.csq.clockMs }) (fun _ => rfl) h).trans ?_
    rw [if_pos rfl]
    exact (stepOf_bid n s.clu.stepList).trans hn

/-- R157: a step hold is recorded, in the peer entry where there is one. -/
theorem State.recordHold_holdRecorded : (s.recordHold n).holdRecorded n = true := by
  unfold State.recordHold
  split
  next p hp =>
    have e := findPeer_updatePeer n n (fun p => { p with stepHold := some s.csq.clockMs }) (fun _ => rfl) s.tbc.peers
    rw [if_pos rfl, hp] at e
    unfold State.holdRecorded
    simp [e]
  · have e := findStep_updateStep_of_kept (b := n) (l := s.clu.stepList)
      (f := fun r => { r with hold := some s.csq.clockMs }) (fun _ => rfl) (by simp [StepRec.kept])
    unfold State.holdRecorded
    simp [e]

/-- R158: the end of a berth's step hold leaves those of the others. -/
theorem State.endHold_holdRecorded (h : StepsSorted s.clu.stepList) (m : Nat) :
    (s.endHold n).holdRecorded m = if m = n then false else s.holdRecorded m := by
  have e := findPeer_updatePeer n m (fun p => { p with stepHold := none, stepFlag := false }) (fun _ => rfl) s.tbc.peers
  have k := stepHold_updateStep (b := n) (n := m) (f := fun r => { r with hold := none }) (fun _ => rfl) h
  unfold State.holdRecorded
  rw [show findPeer m (s.endHold n).tbc.peers = _ from e,
    show ((findStep m (s.endHold n).clu.stepList).any fun r => r.hold.isSome) = _ from k]
  split
  · cases findPeer m s.tbc.peers <;> rfl
  · rfl

theorem State.dropStepBid_only (n : Nat) (s : State) : OnlyClaims s (s.dropStepBid n) := rfl

theorem State.recordHold_only (n : Nat) (s : State) : OnlyClaims s (s.recordHold n) := by
  unfold State.recordHold
  split <;> rfl

theorem State.endHold_only (n : Nat) (s : State) : OnlyClaims s (s.endHold n) := rfl

theorem Clu.stepWindowEnd_of_open {r : StepBidRec} (h : s.stepBidOf n = some r) :
    Clu.stepWindowEnd n s =
      (if r.objected then s.dropStepBid n else (s.dropStepBid n).recordHold n, s.clu.stepAttempt) := by
  unfold Clu.stepWindowEnd
  rw [h]

end Windows

/-- Settles O50: the table's entry and the list's record after each of the three ends. -/
theorem peerWindowsAndHoldsEnd : Obligations.PeerWindowsAndHoldsEnd := by
  refine fun n s => ⟨fun p e hp he => ?bid, fun r hs hr => ?step, fun hs hr => ?hold⟩
  case bid =>
    intro o claimed
    have ho : o = _ := Clu.peerWindowEnd_of_open hp he
    have self : findPeer n o.1.tbc.peers = some p.endBid := by
      rw [ho]
      exact (findPeer_endBid n s.tbc.peers).trans (by rw [if_pos rfl, hp]; rfl)
    refine ⟨rfl, by rw [ho]; rfl, by rw [ho], fun h => ?_, fun h hk => ?_, fun h hk => ?_, fun m hm => ?_⟩
    · rw [self, Peer.endBid_of_objected he h]
    · rw [self, Peer.endBid_of_charge he h hk]
    · rw [self, Peer.endBid_of_floor he h hk]
    · rw [ho]
      exact (findPeer_endBid m s.tbc.peers).trans (if_neg hm)
  case step =>
    intro o
    have ho : o = _ := Clu.stepWindowEnd_of_open hr
    have sorted : StepsSorted s.clu.stepList := hs.1
    have dropped : (s.dropStepBid n).stepBidOf n = none := State.dropStepBid_stepBidOf sorted
    refine ⟨rfl, ?_, ?_, fun h => ?_, fun h => ?_, by rw [ho]; rfl⟩ <;> rw [ho]
    · cases r.objected
      · exact (s.dropStepBid_only n).trans ((s.dropStepBid n).recordHold_only n)
      · exact s.dropStepBid_only n
    · cases r.objected
      · exact State.recordHold_stepBidOf (s := s.dropStepBid n)
          (updateStep_sorted (f := fun r => { r with bid := none }) sorted) dropped
      · exact dropped
    · rw [h]
      exact State.recordHold_holdRecorded
    · rw [h]
      exact State.dropStepBid_holdRecorded sorted n
  case hold =>
    intro o
    have ho : o = (s.endHold n, s.clu.stepAttempt) := if_pos hr
    refine ⟨rfl, by rw [ho]; exact s.endHold_only n, ?_, by rw [ho]; rfl⟩
    rw [ho]
    exact (State.endHold_holdRecorded hs.1 n).trans (if_pos rfl)

end Sys2Proof.Machine

namespace Sys2Proof.Machine

/-! ### Frames received -/

section Reception

variable {s : State} {ident : BitVec 11} {d : List Byte} {b : Nat}

/-- Where nothing was due, a heard frame leaves at most an attempt due. -/
theorem State.heard_otherwiseCalm (h : s.settled = true) (hr : s.running = true) : s.heard.otherwiseCalm = true := by
  have e : s.heard.otherwiseCalm = s.otherwiseCalm := otherwiseCalm_congr rfl
  rw [e]
  rw [State.settled, hr, State.calm_eq] at h
  simp only [Bool.not_true, Bool.false_or, Bool.and_eq_true] at h
  exact h.1

/-- R130: a frame that passes the tests is dealt with by its kind. -/
theorem Tbc.frame_of_passed {kind : BusKind} (hbus : s.tbc.can.onBus = true)
    (h : reception s.own ident d = .passed kind b) : Tbc.frame ident d s = Tbc.deal kind b d s.heard := by
  have h : reception s.heard.own ident d = .passed kind b := h
  rw [Tbc.frame_of_onBus ident d hbus, Tbc.act, h]

/-- R130: the frames of another berth that pass the tests. -/
theorem Tbc.frame_of_peer (kind : BusKind) (hbus : s.tbc.can.onBus = true) (h1 : 1 ≤ b) (h16 : b ≤ 16) (hb : b ≠ s.own)
    (hid : ident.toNat = kind.code * 32 + b) (hk : kind.sentBy b = true) (hd : kind.dataLength = some d.length) :
    Tbc.frame ident d s = Tbc.deal kind b d s.heard := by
  refine Tbc.frame_of_passed hbus ((reception_passed ..).mpr ⟨?_, ?_, h16, hb, hk, hd⟩) <;> omega

end Reception

/-! ### Entries of the peer table -/

section Entries

variable {s : State} {b n : Nat}

/-- R135: the entry of berth `b`, as it is created where there is none. -/
def State.entryOf (b : Nat) (s : State) : Peer :=
  (findPeer b s.tbc.peers).getD (Peer.unheard b ((findStep b s.clu.stepList).bind (·.hold)))

theorem State.entryOf_some {p : Peer} (h : findPeer b s.tbc.peers = some p) : s.entryOf b = p := by
  unfold State.entryOf; rw [h]; rfl

theorem State.withEntry_self (b : Nat) (s : State) : findPeer b (s.withEntry b).tbc.peers = some (s.entryOf b) := by
  unfold State.withEntry State.entryOf
  cases hp : findPeer b s.tbc.peers with
  | none => exact findPeer_setPeer_self (Peer.unheard b ((findStep b s.clu.stepList).bind (·.hold))) s.tbc.peers
  | some p => exact hp

theorem State.withEntry_other (h : n ≠ b) : findPeer n (s.withEntry b).tbc.peers = findPeer n s.tbc.peers := by
  unfold State.withEntry
  split
  · rfl
  · exact findPeer_setPeer_other (Peer.unheard b _) n h s.tbc.peers

/-- R135: an entry created takes a step hold out of the step list, and changes nothing else. -/
theorem State.withEntry_eq (b : Nat) (s : State) : ∃ peers steps,
    s.withEntry b = (s.setTbc { s.tbc with peers := peers }).setClu { s.clu with stepList := steps } := by
  unfold State.withEntry
  split
  · exact ⟨s.tbc.peers, s.clu.stepList, rfl⟩
  · exact ⟨_, _, rfl⟩

theorem erasePeer_setPeer (p : Peer) (l : List Peer) : erasePeer p.berth (setPeer p l) = erasePeer p.berth l := by
  induction l with
  | nil => simp [setPeer, erasePeer]
  | cons q rest ih =>
    unfold setPeer
    split
    next hq => simp [erasePeer, hq]
    split
    · simp [erasePeer]
    · simp only [erasePeer, List.filter_cons] at ih ⊢
      rw [ih]

theorem erasePeer_updatePeer {f : Peer → Peer} (hf : ∀ p, (f p).berth = p.berth) (l : List Peer) :
    erasePeer b (updatePeer b f l) = erasePeer b l := by
  induction l with
  | nil => rfl
  | cons q rest ih =>
    simp only [erasePeer, updatePeer, List.map_cons] at ih ⊢
    by_cases hq : q.berth = b
    · rw [List.filter_cons_of_neg (by simp [hq, hf]), List.filter_cons_of_neg (by simp [hq]), ih]
    · have hq' : (q.berth == b) = false := by simpa using hq
      rw [hq', List.filter_cons_of_pos (by simpa using hq), List.filter_cons_of_pos (by simpa using hq), ih]
      rfl

theorem State.withEntry_erased (b : Nat) (s : State) : erasePeer b
    (s.withEntry b).tbc.peers = erasePeer b s.tbc.peers := by
  unfold State.withEntry
  split
  · rfl
  · exact erasePeer_setPeer (Peer.unheard b ((findStep b s.clu.stepList).bind (·.hold))) s.tbc.peers

end Entries

/-! ### STATUS -/

section Status

variable {s : State} {b n : Nat} {d : List Byte}

theorem State.fileStatus_self (b : Nat) (d : List Byte) (s : State) :
    findPeer b (s.fileStatus b d).tbc.peers = some ((s.entryOf b).file d) := by
  refine (findPeer_updatePeer b b (Peer.file d) (fun _ => rfl) (s.withEntry b).tbc.peers).trans ?_
  rw [if_pos rfl, State.withEntry_self]
  rfl

theorem State.fileStatus_other (h : n ≠ b) : findPeer n (s.fileStatus b d).tbc.peers = findPeer n s.tbc.peers := by
  refine (findPeer_updatePeer b n (Peer.file d) (fun _ => rfl) (s.withEntry b).tbc.peers).trans ?_
  rw [if_neg h, State.withEntry_other h]

theorem State.fileStatus_only (b : Nat) (d : List Byte) (s : State) : OnlyClaims s (s.fileStatus b d) := by
  obtain ⟨peers, steps, e⟩ := s.withEntry_eq b
  unfold State.fileStatus
  rw [e]
  rfl

theorem State.fileStatus_claim (b : Nat) (d : List Byte) (s : State) : (s.fileStatus b d).clu.claim = s.clu.claim := by
  obtain ⟨peers, steps, e⟩ := s.withEntry_eq b
  unfold State.fileStatus
  rw [e]
  rfl

/-- R158: what a filed STATUS does with the step hold of its entry. -/
theorem Clu.onStatus_entry {p : Peer} (h : findPeer b s.tbc.peers = some p) :
    ∃ hold, findPeer b (Clu.onStatus b s).1.tbc.peers = some { p with stepHold := hold } ∧
      (p.stepFlag = false → hold = none) := by
  unfold Clu.onStatus
  by_cases hc : (s.holdRecorded b && !((findPeer b s.tbc.peers).any fun p => p.stepFlag)) = true
  · rw [if_pos hc]
    have e := findPeer_updatePeer b b (fun p => { p with stepHold := none, stepFlag := false }) (fun _ =>
      rfl) s.tbc.peers
    rw [if_pos rfl, h] at e
    rw [h] at hc
    have hflag : p.stepFlag = false := by
      simp only [Option.any_some, Bool.and_eq_true, Bool.not_eq_true'] at hc
      exact hc.2
    exact ⟨none, e.trans (by rw [← hflag]; rfl), fun _ => rfl⟩
  · rw [if_neg hc]
    refine ⟨p.stepHold, h, fun hflag => ?_⟩
    have hnone : s.holdRecorded b = false := by
      rw [h, Option.any_some, hflag] at hc
      simpa using hc
    unfold State.holdRecorded at hnone
    rw [h, Option.any_some, Bool.or_eq_false_iff] at hnone
    simpa using hnone.1

theorem Clu.onStatus_other (h : n ≠ b) : findPeer n (Clu.onStatus b s).1.tbc.peers = findPeer n s.tbc.peers := by
  unfold Clu.onStatus
  split
  · exact (findPeer_updatePeer b n (fun p => { p with stepHold := none, stepFlag := false }) (fun _ => rfl) _).trans
      (if_neg h)
  · rfl

theorem Clu.onStatus_only (b : Nat) (s : State) : OnlyClaims s (Clu.onStatus b s).1 := by
  unfold Clu.onStatus
  split <;> rfl

theorem Clu.onStatus_claim (b : Nat) (s : State) : (Clu.onStatus b s).1.clu.claim = s.clu.claim := by
  unfold Clu.onStatus
  split <;> rfl

theorem Clu.onStatus_handoffs (b : Nat) (s : State) : .shcPass ∉ (Clu.onStatus b s).2 := by
  have : .shcPass ∉ s.clu.stepAttempt := by unfold Clu.stepAttempt; split <;> simp
  unfold Clu.onStatus
  split
  · exact this
  · exact List.not_mem_nil

/-- R134, R162: a pass is run exactly where the STATUS is marked as a change. -/
theorem Tbc.onStatus_pass (d : List Byte) (b : Nat) (s : State) :
    .shcPass ∈ (Tbc.onStatus d b s).2 ↔ s.statusChanges b d = true := by
  unfold Tbc.onStatus
  have := Clu.onStatus_handoffs b (s.fileStatus b d)
  cases s.statusChanges b d <;> simp [Out.emit, this]

theorem Peer.figuresDiffer_iff (p q : Peer) :
    p.figuresDiffer q = true ↔ p.k ≠ q.k ∨ p.floor ≠ q.floor ∨ p.cd ≠ q.cd ∨ p.uq ≠ q.uq := by
  simp [Peer.figuresDiffer, or_assoc]

end Status

/-- Settles O40: the filing, then what the claim unit does with the entry's step hold. -/
theorem statusIsFiled : Obligations.StatusIsFiled := by
  intro ident b d s hbus h1 h16 hb hid hd o
  have ho : o = Tbc.onStatus d b s.heard :=
    Tbc.frame_of_peer .status hbus h1 h16 hb hid (by simpa [BusKind.sentBy] using by omega) (by rw [hd]; rfl)
  have hstate : o.1 = (Clu.onStatus b (s.heard.fileStatus b d)).1 := by rw [ho]; rfl
  have filed := State.fileStatus_self b d s.heard
  obtain ⟨hold, hentry, hfree⟩ := Clu.onStatus_entry filed
  have hpass : .shcPass ∈ o.2 ↔ s.statusChanges b d = true := by rw [ho]; exact Tbc.onStatus_pass d b s.heard
  refine ⟨rfl, ?_, ⟨_, by rw [hstate]; exact hentry, rfl, rfl, rfl, ?_, ?_, ?_, rfl, rfl, rfl, rfl, hfree, fun q hq =>
    ⟨?_, ?_⟩⟩,
    fun hn => ?_, fun n hn => ?_, ?_⟩
  · have heard : OnlyClaims s s.heard := rfl
    rw [hstate]
    exact (heard.trans (s.heard.fileStatus_only b d)).trans (Clu.onStatus_only b _)
  · exact beq_iff_eq
  · exact beq_iff_eq
  · exact beq_iff_eq
  · show (s.heard.entryOf b).bid = q.bid
    rw [State.entryOf_some (s := s.heard) hq]
  · rw [hpass, State.statusChanges, hq]
    show (q.file d).figuresDiffer q = true ↔ _
    rw [Peer.figuresDiffer_iff]
    rfl
  · rw [hpass, State.statusChanges, hn]
  · rw [hstate, Clu.onStatus_other hn, State.fileStatus_other hn]
    rfl
  · rw [hstate, Clu.onStatus_claim, State.fileStatus_claim]
    rfl

end Sys2Proof.Machine

namespace Sys2Proof.Machine

/-! ### BID and OBJECT -/

section Bids

variable {s : State} {b n serial k : Nat} {kind : BidKind}

theorem Peer.recordBid_berth (serial k : Nat) (kind : BidKind) (p : Peer) :
    (p.recordBid serial k kind).berth = p.berth :=
  p.endBid_berth

/-- R150, R151: the claim that an ended earlier bid leaves. -/
theorem Peer.endBid_k {p : Peer} {e : OpenBid} (h : p.bid = some e) :
    p.endBid.k = if e.objected = true then p.k else e.k := by
  cases ho : e.objected with
  | true => rw [Peer.endBid_of_objected h ho]; rfl
  | false =>
    by_cases hk : e.kind = .charge
    · rw [Peer.endBid_of_charge h ho hk]; rfl
    · rw [Peer.endBid_of_floor h ho hk]; rfl

/-- R150: the state that a recorded bid leaves. -/
def State.withBid (b serial k : Nat) (kind : BidKind) (s : State) : State :=
  let t := s.withEntry b
  t.setTbc { t.tbc with peers := updatePeer b (Peer.recordBid serial k kind) t.tbc.peers }

theorem State.withBid_self :
    findPeer b (s.withBid b serial k kind).tbc.peers = some ((s.entryOf b).recordBid serial k kind) := by
  refine (findPeer_updatePeer b b _ (Peer.recordBid_berth serial k kind) (s.withEntry b).tbc.peers).trans ?_
  rw [if_pos rfl, State.withEntry_self]
  rfl

theorem State.withBid_other (h : n ≠ b) :
    findPeer n (s.withBid b serial k kind).tbc.peers = findPeer n s.tbc.peers := by
  refine (findPeer_updatePeer b n _ (Peer.recordBid_berth serial k kind) (s.withEntry b).tbc.peers).trans ?_
  rw [if_neg h, State.withEntry_other h]

theorem State.withBid_only : OnlyClaims s (s.withBid b serial k kind) := by
  obtain ⟨peers, steps, e⟩ := s.withEntry_eq b
  unfold State.withBid
  rw [e]
  rfl

theorem State.withBid_peerTest (q : Nat) : (s.withBid b serial k kind).peerTest b q = s.peerTest b q := by
  have he : erasePeer b (s.withBid b serial k kind).tbc.peers = erasePeer b s.tbc.peers :=
    (erasePeer_updatePeer (Peer.recordBid_berth serial k kind) _).trans (s.withEntry_erased b)
  have hc : (s.withBid b serial k kind).clu.contribution = s.clu.contribution := by
    obtain ⟨peers, steps, e⟩ := s.withEntry_eq b
    unfold State.withBid
    rw [e]
    rfl
  have ha : (s.withBid b serial k kind).avail = s.avail := by
    rw [State.withBid_only (s := s)]
    rfl
  unfold State.peerTest
  rw [he, hc, ha]

theorem State.withBid_objectsNot : (s.withBid b serial k kind).objectsNot = s.objectsNot := by
  obtain ⟨peers, steps, e⟩ := s.withEntry_eq b
  unfold State.withBid
  rw [e]
  rfl

/-- R150: a BID: its record, the objection where the tests call for it, the attempt point that an ended bid is. -/
theorem Clu.onBid_eq (b serial k : Nat) (kind : BidKind) (s : State) :
    Clu.onBid b serial k kind s = (s.withBid b serial k kind,
      (if !s.peerTest b k && !s.objectsNot && (s.entryOf b).endBid.k < k then [.tbcOrder (.object b serial .noRoom)]
        else []) ++
      if s.peerBidOpen b then [.cluAttempt] else []) := by
  have e : Clu.onBid b serial k kind s = (s.withBid b serial k kind,
      (if !(s.withBid b serial k kind).peerTest b k && !(s.withBid b serial k kind).objectsNot &&
          ((findPeer b (s.withBid b serial k kind).tbc.peers).map (·.k)).getD 0 < k
        then [.tbcOrder (.object b serial .noRoom)] else []) ++
      if s.peerBidOpen b then [.cluAttempt] else []) := rfl
  rw [e, State.withBid_peerTest, State.withBid_objectsNot, State.withBid_self]
  rfl

theorem Clu.onBid_objects : .tbcOrder (.object b serial .noRoom) ∈ (Clu.onBid b serial k kind s).2 ↔
    s.avail < k + s.clu.contribution + contributions (erasePeer b s.tbc.peers) ∧ s.objectsNot = false ∧
      (s.entryOf b).endBid.k < k := by
  rw [Clu.onBid_eq]
  simp [State.peerTest, and_assoc]

theorem Clu.onBid_attempt {p : Peer} {e : OpenBid} (hp : findPeer b s.tbc.peers = some p) (he : p.bid = some e) :
    .cluAttempt ∈ (Clu.onBid b serial k kind s).2 := by
  rw [Clu.onBid_eq]
  simp [State.peerBidOpen, hp, he]

/-- R148, R151: an OBJECT to the own open bid. -/
theorem Clu.onObject_own {w : OwnBid} (hn : b = s.own) (hw : s.clu.bid = some w) (ho : w.window.isSome = true)
    (hs : w.serial = serial) : Clu.onObject b serial s =
      (s.setClu { s.clu with bid := none, backoff := some (2000 + 100 * s.own) }, [.cluAttempt]) := by
  unfold Clu.onObject
  rw [if_pos hn, hw]
  simp [ho, hs]

theorem Clu.onObject_idle (hn : b = s.own) (hw : s.clu.bid = none) : Clu.onObject b serial s = (s, []) := by
  unfold Clu.onObject
  rw [if_pos hn, hw]

/-- R151: an OBJECT to another berth's bid. -/
theorem Clu.onObject_other (hn : b ≠ s.own) : Clu.onObject b serial s = (s.markObjected b serial, []) := if_neg hn

theorem Clu.onObject_only (b serial : Nat) (s : State) : OnlyClaims s (Clu.onObject b serial s).1 := by
  unfold Clu.onObject
  (repeat' split) <;> rfl

theorem Clu.onObject_claim (b serial : Nat) (s : State) : (Clu.onObject b serial s).1.clu.claim = s.clu.claim := by
  unfold Clu.onObject
  (repeat' split) <;> rfl

/-- R151: the mark on an open bid of that serial. -/
theorem State.markObjected_self {p : Peer} {e : OpenBid} (hp : findPeer b s.tbc.peers = some p) (he : p.bid = some e)
    (hs : e.serial = serial) :
    findPeer b (s.markObjected b serial).tbc.peers = some { p with bid := some { e with objected := true } } := by
  refine (findPeer_updatePeer b b (Peer.objected serial) (fun _ => rfl) s.tbc.peers).trans ?_
  rw [if_pos rfl, hp]
  simp [Peer.objected, he, hs]

end Bids

/-- Settles O42: a BID by the record it leaves and its hand-offs, an OBJECT by whom it names. -/
theorem bidsAndObjectionsAreTaken : Obligations.BidsAndObjectionsAreTaken := by
  intro ident b d s hbus h1 h16 hb
  have hb0 : (b != 0) = true := by simpa using by omega
  refine ⟨fun hid hd => ?bid, fun hid hd => ?object⟩
  case bid =>
    intro o k
    have ho : o = Clu.onBid b (fieldNat d 0 1) k (BidKind.ofCode (fieldNat d 3 1)) s.heard :=
      Tbc.frame_of_peer .bid hbus h1 h16 hb hid hb0 (by rw [hd]; rfl)
    have hstate : o.1 = s.heard.withBid b (fieldNat d 0 1) k (BidKind.ofCode (fieldNat d 3 1)) := by
      rw [ho, Clu.onBid_eq]
    refine ⟨rfl, ?_, ⟨_, by rw [hstate]; exact State.withBid_self, rfl, fun q e hq he => ⟨?_, ?_⟩, ?_⟩, fun n hn => ?_⟩
    · have heard : OnlyClaims s s.heard := rfl
      rw [hstate]
      exact heard.trans State.withBid_only
    · show (s.heard.entryOf b).endBid.k = _
      rw [State.entryOf_some (s := s.heard) hq, Peer.endBid_k he]
    · rw [ho]
      exact Clu.onBid_attempt (s := s.heard) hq he
    · rw [ho]
      exact Clu.onBid_objects
    · rw [hstate]
      exact State.withBid_other hn
  case object =>
    intro o
    have ho : o = Clu.onObject (fieldNat d 0 1) (fieldNat d 1 1) s.heard :=
      Tbc.frame_of_peer .object hbus h1 h16 hb hid hb0 (by rw [hd]; rfl)
    refine ⟨rfl, ?_, ?_, fun hn => ⟨fun w hw hopen hs => ?_, fun hw => ?_⟩, fun p e hn hp he hs => ?_⟩
    · have heard : OnlyClaims s s.heard := rfl
      rw [ho]
      exact heard.trans (Clu.onObject_only ..)
    · rw [ho]
      exact Clu.onObject_claim ..
    · rw [ho, Clu.onObject_own (s := s.heard) hn hw hopen hs]
      exact ⟨rfl, rfl⟩
    · rw [ho, Clu.onObject_idle (s := s.heard) hn hw]
      exact ⟨rfl, rfl⟩
    · rw [ho, Clu.onObject_other (s := s.heard) hn]
      exact State.markObjected_self (s := s.heard) hp he hs

/-! ### STEP-BID and STEP-FREE -/

section Steps

variable {s : State} {b n serial : Nat}

/-- R157: the state that a recorded step bid leaves. -/
def State.withStepBid (b serial : Nat) (s : State) : State :=
  s.setClu { s.clu with stepList := updateStep b (fun r => { r with bid := some ⟨serial, 250, false⟩ }) s.clu.stepList }

theorem State.withStepBid_stepBidOf : (s.withStepBid b serial).stepBidOf b = some ⟨serial, 250, false⟩ := by
  have e := findStep_updateStep_of_kept (b := b) (l := s.clu.stepList)
    (f := fun r => { r with bid := some ⟨serial, 250, false⟩ }) (fun _ => rfl) rfl
  have e : findStep b (s.withStepBid b serial).clu.stepList = _ := e
  unfold State.stepBidOf
  rw [e]
  rfl

/-- A test of the other berths' records that an empty record fails reads the same after a change of one record. -/
theorem updateStep_any_other {f : StepRec → StepRec} (hf : ∀ r, (f r).berth = r.berth) (g : StepRec → Bool)
    (hg : ∀ r, g r = true → r.kept = true) (l : List StepRec) :
    ((updateStep b f l).any fun r => r.berth != b && g r) = l.any fun r => r.berth != b && g r := by
  have hb : (f (stepOf b l)).berth = b := (hf _).trans (stepOf_berth b l)
  rw [Bool.eq_iff_iff, List.any_eq_true, List.any_eq_true]
  constructor
  · rintro ⟨r, hr, h⟩
    obtain ⟨hm, -⟩ := List.mem_filter.mp hr
    obtain rfl | hm := mem_putStep hm
    · exact absurd hb (by simp at h; exact h.1)
    · exact ⟨r, hm, h⟩
  · rintro ⟨r, hr, h⟩
    have hk := h
    simp only [Bool.and_eq_true, bne_iff_ne, ne_eq] at hk
    exact ⟨r, List.mem_filter.mpr ⟨mem_putStep_of_other hr (fun e => hk.1 (e.trans hb)), hg r hk.2⟩, h⟩

theorem State.withStepBid_otherHolds : (s.withStepBid b serial).otherHolds b = s.otherHolds b := by
  have e := updateStep_any_other (b := b) (f := fun r => { r with bid := some ⟨serial, 250, false⟩ }) (fun _ => rfl)
    (fun r => r.hold.isSome) (fun r h => by simp [StepRec.kept, h]) s.clu.stepList
  unfold State.otherHolds
  exact congrArg (s.tbc.peers.any (fun p => p.berth != b && (p.stepFlag || p.stepHold.isSome)) || ·) e

theorem State.withStepBid_otherBids :
    ((s.withStepBid b serial).clu.stepList.any fun r => r.berth != b && r.bid.isSome) =
      s.clu.stepList.any fun r => r.berth != b && r.bid.isSome :=
  updateStep_any_other (f := fun r => { r with bid := some ⟨serial, 250, false⟩ }) (fun _ => rfl) (fun r =>
    r.bid.isSome) (fun r h => by simp [StepRec.kept, h]) s.clu.stepList

theorem State.withStepBid_stepObjection : (s.withStepBid b serial).stepObjection b = s.stepObjection b := by
  unfold State.stepObjection
  rw [State.withStepBid_otherHolds, State.withStepBid_otherBids]
  rfl

/-- R157: the objection to a STEP-BID of berth `b`. -/
theorem Clu.onStepBid_eq (b serial : Nat) (s : State) : Clu.onStepBid b serial s =
    (s.withStepBid b serial,
      match s.stepObjection b with
      | some reason => [.tbcOrder (.object b serial reason)]
      | none => []) := by
  rw [← State.withStepBid_stepObjection (serial := serial)]
  rfl

theorem Clu.onStepBid_objects (reason : ObjectReason) :
    .tbcOrder (.object b serial reason) ∈ (Clu.onStepBid b serial s).2 ↔ s.stepObjection b = some reason := by
  rw [Clu.onStepBid_eq]
  cases s.stepObjection b with
  | none => simp
  | some r => simp [eq_comm]

/-- R157: does another berth have an open step bid recorded? -/
def State.otherBids (b : Nat) (s : State) : Bool := s.clu.stepList.any fun r => r.berth != b && r.bid.isSome

theorem State.otherBids_iff : s.otherBids b = true ↔ ∃ r ∈ s.clu.stepList, r.berth ≠ b ∧ r.bid.isSome = true := by
  unfold State.otherBids
  rw [List.any_eq_true]
  simp only [Bool.and_eq_true, bne_iff_ne]

/-- R157: the two reasons to object, in their order. -/
theorem State.stepObjection_cases (b : Nat) (s : State) :
    (s.objectsNot = true ∧ s.stepObjection b = none) ∨
      (s.objectsNot = false ∧ (s.clu.stepHeld = true ∨ s.otherHolds b = true) ∧ s.stepObjection b = some .stepHeld) ∨
      (s.objectsNot = false ∧ ¬(s.clu.stepHeld = true ∨ s.otherHolds b = true) ∧
        (s.clu.stepBidOpen = true ∨ s.otherBids b = true) ∧ s.stepObjection b = some .stepEarlier) ∨
      (s.objectsNot = false ∧ ¬(s.clu.stepHeld = true ∨ s.otherHolds b = true) ∧
        ¬(s.clu.stepBidOpen = true ∨ s.otherBids b = true) ∧ s.stepObjection b = none) := by
  unfold State.stepObjection
  split
  next h => exact .inl ⟨h, rfl⟩
  next h =>
    have h : s.objectsNot = false := by simpa using h
    split
    next hh => exact .inr (.inl ⟨h, by simpa using hh, rfl⟩)
    next hh =>
      split
      next hb => exact .inr (.inr (.inl ⟨h, by simpa using hh, Bool.or_eq_true_iff.mp hb, rfl⟩))
      next hb => exact .inr (.inr (.inr ⟨h, by simpa using hh, fun k => hb (Bool.or_eq_true_iff.mpr k), rfl⟩))

theorem State.stepObjection_held : s.stepObjection b = some .stepHeld ↔
    s.objectsNot = false ∧ (s.clu.stepHeld = true ∨ s.otherHolds b = true) := by
  obtain ⟨h, e⟩ | ⟨h, hh, e⟩ | ⟨h, hh, hb, e⟩ | ⟨h, hh, hb, e⟩ := s.stepObjection_cases b
  · simp [h, e]
  · simp [h, hh, e]
  · simp [h, hh, e]
  · simp [hh, e]

theorem State.stepObjection_earlier : s.stepObjection b = some .stepEarlier ↔
    s.objectsNot = false ∧ ¬(s.clu.stepHeld = true ∨ s.otherHolds b = true) ∧
      (s.clu.stepBidOpen = true ∨ ∃ r ∈ s.clu.stepList, r.berth ≠ b ∧ r.bid.isSome = true) := by
  rw [← State.otherBids_iff]
  obtain ⟨h, e⟩ | ⟨h, hh, e⟩ | ⟨h, hh, hb, e⟩ | ⟨h, hh, hb, e⟩ := s.stepObjection_cases b
  · simp [h, e]
  · simp [h, hh, e]
  · simp [h, hh, hb, e]
  · simp [h, hb, e]

theorem Clu.onStepFree_only (b : Nat) (s : State) : OnlyClaims s (Clu.onStepFree b s).1 := by
  unfold Clu.onStepFree
  (repeat' split) <;> rfl

/-- R158: a STEP-FREE leaves no step hold of its berth, and those of the others as they were. -/
theorem Clu.onStepFree_holdRecorded (h : StepsSorted s.clu.stepList) (n : Nat) :
    (Clu.onStepFree b s).1.holdRecorded n = if n = b then false else s.holdRecorded n := by
  unfold Clu.onStepFree
  split
  · exact State.endHold_holdRecorded h n
  next hb =>
    have same : s.holdRecorded n = if n = b then false else s.holdRecorded n := by
      split
      next hn => rw [hn]; simpa using hb
      · rfl
    split
    · exact (State.dropStepBid_holdRecorded h n).trans same
    · exact same

theorem Clu.onStepFree_of_held (h : s.holdRecorded b = true) :
    Clu.onStepFree b s = (s.endHold b, s.clu.stepAttempt) := if_pos h

end Steps

/-- Settles O43: the step list after each frame, and the first reason to object. -/
theorem stepBidsAndFreesAreTaken : Obligations.StepBidsAndFreesAreTaken := by
  intro ident b d s hbus h1 h16 hb
  have hb0 : (b != 0) = true := by simpa using by omega
  have heard : OnlyClaims s s.heard := rfl
  refine ⟨fun hid hd => ?bid, fun hid hd hsteps => ?free⟩
  case bid =>
    intro o held
    have ho : o = Clu.onStepBid b (fieldNat d 0 1) s.heard :=
      Tbc.frame_of_peer .stepBid hbus h1 h16 hb hid hb0 (by rw [hd]; rfl)
    have hstate : o.1 = s.heard.withStepBid b (fieldNat d 0 1) := by rw [ho]; rfl
    refine ⟨rfl, by rw [hstate]; rfl, by rw [hstate]; rfl, by rw [hstate]; exact State.withStepBid_stepBidOf, ?_, ?_⟩
    · rw [ho, Clu.onStepBid_objects]
      exact State.stepObjection_held (s := s.heard)
    · rw [ho, Clu.onStepBid_objects]
      exact State.stepObjection_earlier (s := s.heard)
  case free =>
    intro o
    have ho : o = Clu.onStepFree b s.heard :=
      Tbc.frame_of_peer .stepFree hbus h1 h16 hb hid hb0 (by rw [hd]; rfl)
    have hold := Clu.onStepFree_holdRecorded (s := s.heard) (b := b) hsteps.1
    rw [ho]
    refine ⟨congrArg _ (congrArg Out.conclude ho), heard.trans (Clu.onStepFree_only b s.heard),
      (hold b).trans (if_pos rfl),
      fun hr hq => ?_, fun n hn => (hold n).trans (if_neg hn)⟩
    rw [Clu.onStepFree_of_held (s := s.heard) hr]
    exact if_pos hq

end Sys2Proof.Machine

namespace Sys2Proof.Machine

/-! ### Frames that are not for the part -/

section Unwanted

variable {s : State} {ident : BitVec 11} {d : List Byte}

theorem Tbc.receive_of_offBus (f : State → Out) (h : s.tbc.can.onBus = false) : Tbc.receive f s = (s, []) :=
  if_neg (by rw [h]; exact Bool.false_ne_true)

theorem Tbc.receive_of_onBus (f : State → Out) (h : s.tbc.can.onBus = true) : Tbc.receive f s = f s.heard := if_pos h

/-- Each row of a bus frame is the frame it carries, or one of the two outcomes of the tests without one. -/
theorem exec_frame_cases {c : Instr} (h : isFrame c = true) :
    (∃ f, frameOf c = some f ∧ ∀ s, exec c s = (Tbc.frame f.ident f.data s).outcome) ∨
      ∃ f, ∀ s, exec c s = (Tbc.receive f s).outcome := by
  cases c with
  | status i d | bid i d | object i d | stepBid i d | stepFree i d | querySummary i d | queryPeer i d | ackTrip i d
  | clearAttention i d | forgetPeer i d => exact .inl ⟨⟨i, d⟩, rfl, fun _ => rfl⟩
  | queryTrip f | queryResult f => exact .inl ⟨f, rfl, fun _ => rfl⟩
  | ownNumberFrame => exact .inr ⟨Tbc.ownNumber, fun _ => rfl⟩
  | frameDisregarded => exact .inr ⟨fun s => (s, []), fun _ => rfl⟩
  | _ => exact absurd h Bool.false_ne_true

theorem exec_frameOf {c : Instr} {f : BusFrame} (h : frameOf c = some f) (s : State) :
    exec c s = (Tbc.frame f.ident f.data s).outcome := by
  cases c with
  | status i d | bid i d | object i d | stepBid i d | stepFree i d | querySummary i d | queryPeer i d | ackTrip i d
  | clearAttention i d | forgetPeer i d | queryTrip f | queryResult f =>
    obtain rfl := Option.some.inj h
    rfl
  | _ => exact absurd h (by simp [frameOf])

/-- R131: the frames with the own number as their sender. -/
theorem reception_ownNumber (own : Nat) (ident : BitVec 11) (d : List Byte) :
    reception own ident d = .ownNumber ↔ ident.toNat % 32 ≤ 16 ∧ ident.toNat % 32 = own := by
  unfold reception
  simp only
  split
  next h => exact ⟨fun k => absurd k (by simp), fun k => absurd h (by omega)⟩
  next h =>
    split
    next k => exact ⟨fun _ => ⟨by omega, k⟩, fun _ => rfl⟩
    next k =>
      refine ⟨fun e => ?_, fun e => absurd e.2 k⟩
      (repeat' split at e) <;> exact absurd e (by simp)

/-- R140, R183: an undefined item. -/
theorem Tbc.onQuery_undefined (h : fieldNat d 1 1 = 0 ∨ 4 < fieldNat d 1 1) : Tbc.onQuery d s = (s, []) := by
  unfold Tbc.onQuery
  simp only
  split <;> first | omega | rfl

/-- R141: an undefined command. -/
theorem Tbc.onControl_undefined (h : fieldNat d 1 1 = 0 ∨ 2 < fieldNat d 1 1) : Tbc.onControl d s = (s, []) := by
  unfold Tbc.onControl
  split <;> first | omega | rfl

theorem Tbc.forOwn_of_other (f : State → Out) (h : fieldNat d 0 1 ≠ s.own) : Tbc.forOwn d f s = (s, []) := if_neg h

theorem Tbc.forOwn_idle {f : State → Out} (h : f s = (s, [])) : Tbc.forOwn d f s = (s, []) := by
  unfold Tbc.forOwn
  split
  · exact h
  · rfl

/-- The kinds that peers send, with their lengths. -/
def peerKinds : List (Nat × Nat) := [(2, 3), (4, 4), (5, 1), (6, 0), (8, 8)]

/-- The kinds that the supervisory station sends, with their lengths. -/
def stationKinds : List (Nat × Nat) := [(12, 3), (14, 3), (15, 4)]

/-- Sections 8.2 and 8.6, R140, R141: a frame of another sender that the part disregards. -/
def Unwanted (own : Nat) (ident : BitVec 11) (d : List Byte) : Prop :=
  let kind := ident.toNat / 32
  let sender := ident.toNat % 32
  16 < sender ∨ sender ≠ own ∧
    ((kind, d.length) ∉ peerKinds ++ stationKinds ∨ (kind, d.length) ∈ peerKinds ∧ sender = 0 ∨
      (kind, d.length) ∈ stationKinds ∧ sender ≠ 0 ∨
      (kind, d.length) ∈ stationKinds ∧ (fieldNat d 0 1 ≠ own ∨
        kind = 12 ∧ (fieldNat d 1 1 = 0 ∨ 4 < fieldNat d 1 1) ∨
        kind = 15 ∧ (fieldNat d 1 1 = 0 ∨ 2 < fieldNat d 1 1)))

/-- A frame that passes the tests is of a kind of its sender's side, with that kind's length. -/
theorem BusKind.passed_side {kind : BusKind} {b n : Nat} (hs : kind.sentBy b = true) (hl : kind.dataLength = some n) :
    (b ≠ 0 ∧ (kind.code, n) ∈ peerKinds ∧ (kind.code, n) ∉ stationKinds) ∨
      (b = 0 ∧ (kind.code, n) ∈ stationKinds ∧ (kind.code, n) ∉ peerKinds ∧
        (kind = .query ∨ kind = .ackTrip ∨ kind = .control)) := by
  cases kind with
  | object | bid | stepBid | stepFree | status =>
    obtain rfl := Option.some.inj hl
    exact .inl ⟨by simpa [BusKind.sentBy] using hs, by decide, by decide⟩
  | query | ackTrip | control =>
    obtain rfl := Option.some.inj hl
    exact .inr ⟨by simpa [BusKind.sentBy] using hs, by decide, by decide, by decide⟩
  | reply => exact absurd hl (by simp [BusKind.dataLength])

/-- R130, R140, R141: nothing is done with an unwanted frame. -/
theorem Tbc.act_of_unwanted (h : Unwanted s.own ident d) : Tbc.act ident d s = (s, []) := by
  obtain ⟨-, e⟩ | ⟨hr, -⟩ | ⟨kind, b, hr, e⟩ := Tbc.act_cases ident d s
  · exact e
  · obtain ⟨hle, heq⟩ := (reception_ownNumber ..).mp hr
    rcases h with h | ⟨h, -⟩
    · omega
    · exact absurd heq h
  · obtain ⟨hcode, rfl, hle, hne, hsent, hlen⟩ := (reception_passed ..).mp hr
    rw [e]
    have h := (h.resolve_left (by omega)).2
    rw [hcode] at h
    obtain ⟨hb, hp, hst⟩ | ⟨hb, hst, hp, hk⟩ := BusKind.passed_side hsent hlen
    · rcases h with h | ⟨-, h⟩ | ⟨h, -⟩ | ⟨h, -⟩
      · exact absurd (List.mem_append_left _ hp) h
      · exact absurd h hb
      · exact absurd h hst
      · exact absurd h hst
    · rcases h with h | ⟨h, -⟩ | ⟨-, h⟩ | ⟨-, h⟩
      · exact absurd (List.mem_append_right _ hst) h
      · exact absurd h hp
      · exact absurd hb h
      rcases hk with rfl | rfl | rfl
      · rcases h with h | ⟨-, h⟩ | ⟨h, -⟩
        · exact Tbc.forOwn_of_other _ h
        · exact Tbc.forOwn_idle (Tbc.onQuery_undefined h)
        · exact absurd h (by decide)
      · rcases h with h | ⟨h, -⟩ | ⟨h, -⟩
        · exact Tbc.forOwn_of_other _ h
        · exact absurd h (by decide)
        · exact absurd h (by decide)
      · rcases h with h | ⟨h, -⟩ | ⟨-, h⟩
        · exact Tbc.forOwn_of_other _ h
        · exact absurd h (by decide)
        · exact Tbc.forOwn_idle (Tbc.onControl_undefined h)

/-- R130: an unwanted frame is a frame disregarded. -/
theorem Tbc.frame_of_unwanted (h : Unwanted s.own ident d) : Tbc.frame ident d s = Tbc.receive (fun s => (s, [])) s :=
    by
  cases hbus : s.tbc.can.onBus with
  | false => rw [Tbc.frame_of_offBus ident d hbus, Tbc.receive_of_offBus _ hbus]
  | true => rw [Tbc.frame_of_onBus ident d hbus, Tbc.receive_of_onBus _ hbus, Tbc.act_of_unwanted (s := s.heard) h]

/-- R131: a frame with the own number is taken as such, whatever it carries. -/
theorem Tbc.frame_of_ownNumber (h : ident.toNat % 32 ≤ 16) (k : ident.toNat % 32 = s.own) :
    Tbc.frame ident d s = Tbc.receive Tbc.ownNumber s := by
  cases hbus : s.tbc.can.onBus with
  | false => rw [Tbc.frame_of_offBus ident d hbus, Tbc.receive_of_offBus _ hbus]
  | true =>
    have hr : reception s.heard.own ident d = .ownNumber := (reception_ownNumber ..).mpr ⟨h, k⟩
    rw [Tbc.frame_of_onBus ident d hbus, Tbc.receive_of_onBus _ hbus, Tbc.act, hr]

end Unwanted

/-- Settles O49: by the tests of R130, and for a frame that passes them by its kind. -/
theorem unwantedFramesChangeNothing : Obligations.UnwantedFramesChangeNothing := by
  refine fun s => ⟨fun hbus hs c hc => ?off, fun c f hf => ⟨fun h => ?unwanted, fun hle hown => ?own⟩⟩
  case off =>
    have idle : exec c s = Out.outcome (s, []) := by
      obtain ⟨f, -, e⟩ | ⟨f, e⟩ := exec_frame_cases hc
      · rw [e, Tbc.frame_of_offBus f.ident f.data hbus]
      · rw [e, Tbc.receive_of_offBus f hbus]
    rw [idle]
    exact congrArg _ (Out.conclude_settled s hs)
  case unwanted =>
    have e : exec c s = exec .frameDisregarded s := by
      rw [exec_frameOf hf, Tbc.frame_of_unwanted (s := s) h]
      rfl
    refine ⟨e, fun hbus hs => ?_⟩
    rw [e]
    show Out.outcome (Tbc.receive (fun s => (s, [])) s) = _
    rw [Tbc.receive_of_onBus _ hbus]
    exact congrArg _ (Out.conclude_begun s.heard (State.heard_otherwiseCalm hs))
  case own =>
    rw [exec_frameOf hf, Tbc.frame_of_ownNumber hle hown]
    rfl

end Sys2Proof.Machine

namespace Sys2Proof.Machine

/-! ## Own frames -/

/-! ### The frame offered -/

theorem offeredFrame_eq_none {q : List TxFrame} : offeredFrame q = none ↔ q = [] := by
  cases q with
  | nil => simp [offeredFrame]
  | cons f rest =>
    obtain ⟨g, hg⟩ := offeredFrame_isSome (q := f :: rest) rfl
    simp [hg]

/-- R129: where the offered frame stands in the queue. -/
theorem offeredFrame_split {q : List TxFrame} {f : TxFrame} (h : offeredFrame q = some f) :
    ∃ before after, q = before ++ f :: after ∧ (∀ g ∈ before, f.body.kindCode < g.body.kindCode) ∧
      (∀ g ∈ after, f.body.kindCode ≤ g.body.kindCode) ∧ dropKind f.body.kind q = before ++ after := by
  induction q generalizing f with
  | nil => exact absurd h (by simp [offeredFrame])
  | cons g rest ih =>
    have first (hle : ∀ h ∈ rest, g.body.kindCode ≤ h.body.kindCode) : ∃ before after,
      g :: rest = before ++ g :: after ∧
        (∀ h ∈ before, g.body.kindCode < h.body.kindCode) ∧ (∀ h ∈ after, g.body.kindCode ≤ h.body.kindCode) ∧
        dropKind g.body.kind (g :: rest) = before ++ after :=
      ⟨[], rest, rfl, fun _ k => absurd k List.not_mem_nil, hle, if_pos (beq_self_eq_true _)⟩
    unfold offeredFrame at h
    split at h
    next hnone =>
      obtain rfl := Option.some.inj h
      rw [offeredFrame_eq_none.mp hnone] at first ⊢
      exact first fun _ k => absurd k List.not_mem_nil
    next m hm =>
      obtain ⟨before, after, hq, hb, ha, hd⟩ := ih hm
      split at h
      next hle =>
        obtain rfl := Option.some.inj h
        refine first fun x hx => ?_
        rw [hq] at hx
        rcases List.mem_append.mp hx with hx | hx
        · exact hle.trans (hb x hx).le
        · obtain rfl | hx := List.mem_cons.mp hx
          · exact hle
          · exact hle.trans (ha x hx)
      next hlt =>
        obtain rfl := Option.some.inj h
        refine ⟨g :: before, after, by rw [hq]; rfl, fun x hx => ?_, ha, ?_⟩
        · obtain rfl | hx := List.mem_cons.mp hx
          · omega
          · exact hb x hx
        · have hne : ¬(g.body.kind == m.body.kind) = true := fun e => hlt (by
            unfold TxBody.kindCode
            rw [eq_of_beq e])
          rw [dropKind, if_neg hne, hd]
          rfl

/-! ### Orders and completions -/

section Completion

variable {t : Tbc} {a : Attempt} {i : Nat}

/-- R129: an order changes the queue alone. -/
theorem Tbc.order_eq (b : TxBody) (t : Tbc) : ∃ q, t.order b = { t with queue := q } := by
  rcases Tbc.order_cases b t with e | ⟨e, -⟩
  · exact ⟨t.queue, e⟩
  · exact ⟨_, e⟩

/-- R132: after the order of a STATUS one is queued, where there is room. -/
theorem Tbc.order_status_mem (hs : t.can.sends = true) (hl : t.queue.length < 24) :
    ∃ f ∈ (t.order .status).queue, f.body = .status := by
  have status {b : TxBody} (h : b.isStatus = true) : b = .status := by
    cases b with
    | status => rfl
    | _ => exact absurd h Bool.false_ne_true
  by_cases hq : t.queue.any (·.body.isStatus) = true
  · obtain ⟨f, hf, h⟩ := List.any_eq_true.mp hq
    refine ⟨f, ?_, status h⟩
    rcases Tbc.order_cases .status t with e | ⟨e, -⟩ <;> rw [e]
    · exact hf
    · exact List.mem_append_left _ hf
  · have e : t.order .status = { t with queue := t.queue ++ [⟨.status, some 1000⟩] } := by
      simp [Tbc.order, hs, hl, TxBody.bidding, hq]
    rw [e]
    exact ⟨_, List.mem_append_right _ (List.mem_singleton_self _), rfl⟩

/-- R128, R129: what every completion makes of the bus controller. -/
def Tbc.cleared (a : Attempt) (i : Nat) (t : Tbc) : Tbc :=
  Tbc.judged
    { t with
      queue := (dropKind a.body.kind t.queue).map fun f => { f with timer := some 1000 }
      txErr := t.txErr - 1, attempt := none, busLost := false, lastSent := some ⟨i, a.data⟩ }

theorem Tbc.completed_eq : t.completed a i =
    if a.again || t.busLost then (t.cleared a i).order .status else t.cleared a i := rfl

/-- R128: a judged interface may send, whatever its counts. -/
theorem Tbc.judged_sends (t : Tbc) : t.judged.can.sends = true := by
  unfold Tbc.judged
  simp only
  split
  · rfl
  split <;> rfl

/-- A completion changes the queue of what is cleared alone. -/
theorem Tbc.completed_frame (a : Attempt) (i : Nat) (t : Tbc) : ∃ q, t.completed a i =
    { t.cleared a i with queue := q } := by
  rw [Tbc.completed_eq]
  split
  · exact Tbc.order_eq .status _
  · exact ⟨_, rfl⟩

theorem Tbc.completed_queue_of_quiet (ha : a.again = false) (hl : t.busLost = false) :
    (t.completed a i).queue = (dropKind a.body.kind t.queue).map fun f => { f with timer := some 1000 } := by
  rw [Tbc.completed_eq, if_neg (by simp [ha, hl])]
  rfl

theorem Tbc.completed_status_mem (h : a.again = true ∨ t.busLost = true)
    (hr : ((dropKind a.body.kind t.queue).map fun f => { f with timer := some 1000 }).length < 24) :
    ∃ f ∈ (t.completed a i).queue, f.body = .status := by
  rw [Tbc.completed_eq, if_pos (by simpa using h)]
  exact Tbc.order_status_mem (Tbc.judged_sends _) hr

/-- R129: the completion of the frame in its attempt. -/
theorem Tbc.complete_of_attempt {s : State} (hbus : s.tbc.can.onBus = true) (ha : s.tbc.attempt = some a)
    (hi : i = 32 * a.body.kindCode + s.own) : Tbc.complete i s =
      (s.setTbc (s.tbc.completed a i),
        (if a.body.bidding then [.cluCompleted a.body] else []) ++
          (if s.tbc.busLost then [.atuSources, .cluAttempt] else [])) := by
  have hid : (i == identifier a.body.kindCode s.own) = true := by
    rw [beq_iff_eq, identifier]
    omega
  unfold Tbc.complete
  rw [ha]
  exact if_pos (by rw [hbus, hid]; rfl)

/-- Log entry 14: a completion of another identifier has no effect. -/
theorem Tbc.complete_of_other {s : State} (h : ∀ a, s.tbc.attempt = some a → i ≠ 32 * a.body.kindCode + s.own) :
    Tbc.complete i s = (s, []) := by
  unfold Tbc.complete
  split
  · rfl
  next a ha =>
    refine if_neg fun k => h a ha ?_
    rw [Bool.and_eq_true, beq_iff_eq, identifier] at k
    omega

end Completion

/-- R147: which completions open the window of the own QUEUED bid. -/
theorem Clu.openWindow_of_queued {c : Clu} {w : OwnBid} (hw : c.bid = some w) (hq : w.window = none) (step : Bool) :
    (c.openWindow w.serial step).bid =
      if (w.kind == .step) = step then some { w with window := some 250 } else some w := by
  unfold Clu.openWindow
  rw [hw]
  by_cases h : (w.kind == .step) = step <;> simp [hq, h, hw]

/-- Settles O46: the queue by induction, the completion by whether it is of the frame in its attempt. -/
theorem ownFrameCompletes : Obligations.OwnFrameCompletes := by
  refine ⟨fun q => ⟨offeredFrame_eq_none, fun f => offeredFrame_split⟩, fun s hbus => ⟨fun f ha hf => ?begin,
    fun id hs h => ?other, fun a id ha hid => ?own, fun w hw hq => ⟨?_, fun k kind => ?_⟩⟩⟩
  case begin =>
    have hq : s.tbc.queue.isEmpty = false := by
      cases hq : s.tbc.queue with
      | nil => exact absurd (hq ▸ hf) (by simp [offeredFrame])
      | cons => rfl
    simp [Tbc.due, Tbc.attemptDue, Tbc.begin, hbus, ha, hf, hq]
  case other =>
    show Out.outcome (Tbc.complete id.toNat s) = _
    rw [Tbc.complete_of_other h]
    exact congrArg _ (Out.conclude_settled s hs)
  case own =>
    intro o rest
    have ho : o = _ := Tbc.complete_of_attempt hbus ha hid
    have htbc : o.1.tbc = s.tbc.completed a id.toNat := by rw [ho]; rfl
    obtain ⟨q, hq⟩ := Tbc.completed_frame a id.toNat s.tbc
    refine ⟨rfl, by rw [ho]; rfl, by rw [htbc, hq]; rfl, by rw [htbc, hq]; rfl, by rw [htbc, hq]; rfl,
      by rw [htbc, hq]; rfl, fun hg hl => ?_, fun h => ⟨?_, fun hr => ?_⟩, fun hl => ?_, fun hl => ?_, fun hb => ?_⟩
    · rw [htbc]
      exact Tbc.completed_queue_of_quiet hg hl
    · rw [htbc]
      exact (Tbc.completed_queue a id.toNat s.tbc).imp_right fun k => k.1
    · rw [htbc]
      exact Tbc.completed_status_mem h hr
    · rw [ho, hl]
      exact List.append_nil _
    · rw [ho, hl]
      refine ⟨by simp, by simp, fun hb => ?_⟩
      simp [hb]
    · show Tbc.statusChanged s = _
      unfold Tbc.statusChanged
      rw [ha]
      exact if_pos (by rw [hb]; rfl)
  · show (s.clu.openWindow w.serial true).bid = _
    rw [Clu.openWindow_of_queued hw hq]
    cases w.kind <;> rfl
  · show (s.clu.openWindow w.serial false).bid = _
    rw [Clu.openWindow_of_queued hw hq]
    cases w.kind <;> rfl

end Sys2Proof.Machine

namespace Sys2Proof.Machine

/-! ## The ship link -/

/-! ### Messages in the queue -/

section Queue

variable {c : Slc} {m : ShipMsg} {q : List ShipMsg}

theorem putMsg_nil (m : ShipMsg) : putMsg m [] = [m] := by simp [putMsg]

theorem putMsg_of_hello (h : m.isHello = true) :
    putMsg m q = if q.any ShipMsg.isHello = true ∨ 8 ≤ q.length then q else q ++ [m] := by
  have hc : m.isCeiling = false := by cases m <;> first | rfl | exact absurd h Bool.false_ne_true
  unfold putMsg
  by_cases ha : q.any ShipMsg.isHello = true
  · simp [hc, h, ha]
  · by_cases hl : q.length < 8
    · simp [hc, h, ha, hl, Nat.not_le.mpr hl]
    · simp [hc, h, ha, Nat.not_lt.mp hl, hl]

theorem putMsg_of_ceiling (h : m.isCeiling = true) : putMsg m q =
    if q.any ShipMsg.isCeiling = true then q.map fun x => if x.isCeiling then m else x
    else if 8 ≤ q.length then q else q ++ [m] := by
  have hh : m.isHello = false := by cases m <;> first | rfl | exact absurd h Bool.false_ne_true
  unfold putMsg
  by_cases ha : q.any ShipMsg.isCeiling = true
  · simp only [h, ha, Bool.and_self, if_true]
  · by_cases hl : q.length < 8
    · simp [hh, ha, hl, Nat.not_le.mpr hl]
    · simp [hh, ha, Nat.not_lt.mp hl, hl]

/-- R114: a CEILING is in the queue where it finds room or one of its kind. -/
theorem mem_putMsg_of_ceiling (h : m.isCeiling = true) (hq : q.length < 8 ∨ q.any ShipMsg.isCeiling = true) :
    m ∈ putMsg m q := by
  rw [putMsg_of_ceiling h]
  split
  next ha =>
    obtain ⟨x, hx, hc⟩ := List.any_eq_true.mp ha
    exact List.mem_map.mpr ⟨x, hx, if_pos hc⟩
  next ha =>
    rw [if_neg (by have := hq.resolve_right ha; omega)]
    exact List.mem_append_right _ (List.mem_singleton_self m)

theorem Slc.begin_of_busy (h : c.sending.isSome = true) : c.begin = c := by
  obtain ⟨x, hx⟩ := Option.isSome_iff_exists.mp h
  unfold Slc.begin
  rw [hx]

theorem Slc.begin_of_idle (h : c.sending = none) :
    c.begin = { c with sending := c.queue.head?, queue := c.queue.drop 1 } := by
  unfold Slc.begin
  rw [h]
  cases hq : c.queue with
  | nil => exact congrArg₂ (fun x y => { c with sending := x, queue := y }) h hq
  | cons m rest => rfl

theorem Slc.begin_eq (c : Slc) : ∃ q x, c.begin = { c with queue := q, sending := x } := by
  cases h : c.sending with
  | none => exact ⟨_, _, Slc.begin_of_idle h⟩
  | some x => exact ⟨c.queue, c.sending, Slc.begin_of_busy (by rw [h]; rfl)⟩

theorem Slc.mem_begin (h : m ∈ c.queue) : m ∈ c.begin.queue ∨ c.begin.sending = some m := by
  cases hs : c.sending with
  | some x => rw [Slc.begin_of_busy (by rw [hs]; rfl)]; exact .inl h
  | none =>
    rw [Slc.begin_of_idle hs]
    cases hq : c.queue with
    | nil => exact absurd (hq ▸ h) List.not_mem_nil
    | cons y rest =>
      rw [hq] at h
      obtain rfl | h := List.mem_cons.mp h
      · exact .inr rfl
      · exact .inl h

theorem Slc.order_of_allowed (h : m.allowed c.link = true) :
    c.order m = Slc.begin { c with queue := putMsg m c.queue } := if_pos h

/-- R114: an order changes the queue and the transmission alone. -/
theorem Slc.order_eq (m : ShipMsg) (c : Slc) : ∃ q x, c.order m = { c with queue := q, sending := x } := by
  unfold Slc.order
  split
  · exact Slc.begin_eq _
  · exact ⟨c.queue, c.sending, rfl⟩

/-- R125: a CEILING ordered in UP changes the last content, the queue and the transmission. -/
theorem Slc.sendCeiling_eq (k : Nat × Nat) (c : Slc) :
    ∃ q x, c.sendCeiling k = { c with lastCeiling := some k, queue := q, sending := x } := Slc.order_eq _ _

theorem Slc.mem_sendCeiling {k : Nat × Nat} (hl : c.link = .up)
    (hq : c.queue.length < 8 ∨ c.queue.any ShipMsg.isCeiling = true) :
    .ceiling k.1 k.2 ∈ (c.sendCeiling k).queue ∨ (c.sendCeiling k).sending = some (.ceiling k.1 k.2) := by
  unfold Slc.sendCeiling
  rw [Slc.order_of_allowed (by rw [hl]; rfl)]
  exact Slc.mem_begin (mem_putMsg_of_ceiling rfl hq)

theorem Slc.announce_eq (m : ShipMsg) (c : Slc) :
    ∃ q x, c.announce m = { c with hello := some 10000, queue := q, sending := x } := Slc.order_eq _ _

end Queue

/-! ### SHIP-HELLO -/

section Hello

variable {s : State} {d : List Byte}

/-- R112: the state with the receiver hunting. -/
def State.hunted (s : State) : State := s.setSlc { s.slc with rx := .hunting, gap := none }

theorem Slc.message_of_connected (f : State → Out) (h : s.slc.link ≠ .down) : Slc.message f s = f s.hunted :=
  if_neg (by simpa using h)

theorem Slc.message_of_down (f : State → Out) (h : s.slc.link = .down) : Slc.message f s = (s, []) :=
  if_pos (by simpa using h)

theorem helloVoltageOk_iff (f : Figures) (d : List Byte) :
    helloVoltageOk f d = true ↔ 20 * ((fieldNat d 6 4 : Int) - f.vn).natAbs ≤ f.vn := decide_eq_true_iff

theorem helloFrequencyOk_iff (f : Figures) (d : List Byte) : helloFrequencyOk f d = true ↔ fieldNat d 2 4 = f.fn :=
  beq_iff_eq

/-- R119: the modes that the byte of a SHIP-HELLO offers. -/
theorem offers_eq (n : Nat) : (decide (n ≤ 3) && n % 2 == 1) = (n == 1 || n == 3) ∧
    (decide (n ≤ 3) && n / 2 % 2 == 1) = (n == 2 || n == 3) := by
  constructor <;> rw [Bool.eq_iff_iff] <;> simp only [Bool.and_eq_true, Bool.or_eq_true, decide_eq_true_eq,
    beq_iff_eq] <;>
    omega

/-- R118, R119, R125: the ship link after a compatible SHIP-HELLO, up to where its CEILING stands. -/
theorem Slc.shipHello_compatible (hf : helloFrequencyOk s.figs d = true) (hv : helloVoltageOk s.figs d = true) :
    ∃ c : Slc, (Slc.shipHello d s).1 = s.setSlc (c.sendCeiling s.ceilingContent) ∧ c.link = .up ∧
      c.queue = s.slc.queue ∧ c.silence = some 5000 ∧ c.ceiling = some 5000 ∧
      c.shipNumber = (s.slc.takeHello d).shipNumber ∧ c.h = (s.slc.takeHello d).h ∧ c.c = (s.slc.takeHello d).c ∧
      c.offersClosed = (s.slc.takeHello d).offersClosed ∧ c.offersOpen = (s.slc.takeHello d).offersOpen ∧
      c.incompat = .none ∧
      (s.slc.link ≠ .up → c.hello = none ∧ c.linkHold = none ∧ c.holdExpired = false) ∧
      .shcFloor ∈ (Slc.shipHello d s).2 ∧ .csqLinkLoss ∉ (Slc.shipHello d s).2 := by
  unfold Slc.shipHello
  rw [hf, hv]
  by_cases hl : s.slc.link = .up
  · have hl' : (s.slc.link == .up) = true := by rw [hl]; rfl
    rw [hl']
    exact ⟨_, rfl, hl, rfl, rfl, rfl, rfl, rfl, rfl, rfl, rfl, rfl, fun k => absurd hl k, List.mem_singleton_self _,
      by simp⟩
  · have hl' : (s.slc.link == .up) = false := by simpa using hl
    have ht : ((s.slc.takeHello d).link == .up) = false := hl'
    rw [hl']
    refine ⟨{ s.slc.takeHello d with
        link := .up, hello := none, silence := some 5000, linkHold := none, holdExpired := false, ceiling :=
          some 5000 },
      ?_, rfl, rfl, rfl, rfl, rfl, rfl, rfl, rfl, rfl, rfl, fun _ => ⟨rfl, rfl, rfl⟩, ?_, ?_⟩
    · simp [Slc.change, ht, Slc.enterUp, Out.emit]
      rfl
    · simp [Slc.change, ht, Out.emit]
    · simp [Slc.change, ht, Out.emit]

/-- R116, R118: the ship link after an incompatible SHIP-HELLO. -/
theorem Slc.shipHello_incompatible (h : ¬(helloFrequencyOk s.figs d = true ∧ helloVoltageOk s.figs d = true)) :
    (Slc.shipHello d s).1.slc.link = .incompatible ∧
      (Slc.shipHello d s).1.slc.incompat = (if helloFrequencyOk s.figs d then .voltage else .frequency) ∧
      (s.slc.link = .up → (Slc.shipHello d s).1.slc.silence = none ∧ (Slc.shipHello d s).1.slc.linkHold = some 60000 ∧
        (Slc.shipHello d s).1.slc.hello = some 10000 ∧ .csqLinkLoss ∈ (Slc.shipHello d s).2) := by
  unfold Slc.shipHello
  rw [if_neg (by rwa [Bool.and_eq_true])]
  simp only
  split
  next hl =>
    have hl : s.slc.link = .incompatible := by simpa using hl
    exact ⟨hl, rfl, fun k => absurd (hl.symm.trans k) (by simp)⟩
  · generalize ht : s.setSlc
      { s.slc with incompat := if helloFrequencyOk s.figs d then .voltage else .frequency } = t
    have hlink : t.slc.link = s.slc.link := by rw [← ht]; rfl
    have hinc : t.slc.incompat = if helloFrequencyOk s.figs d then .voltage else .frequency := by rw [← ht]; rfl
    have hslc : (Slc.change .incompatible t).1.slc =
        Slc.announce t.berthHello { (if t.slc.link == .up then t.slc.leaveUp else t.slc) with link := .incompatible } :=
          rfl
    obtain ⟨q, x, e⟩ := Slc.announce_eq t.berthHello
      { (if t.slc.link == .up then t.slc.leaveUp else t.slc) with link := .incompatible }
    rw [hslc, e]
    refine ⟨rfl, ?_, fun hu => ?_⟩
    · rw [← hinc]
      show (if t.slc.link == .up then t.slc.leaveUp else t.slc).incompat = _
      split <;> rfl
    · have hu : (t.slc.link == .up) = true := by rw [hlink, hu]; rfl
      simp [hu, Slc.leaveUp, Slc.change]

end Hello

theorem Slc.shipHello_only (d : List Byte) (s : State) : OnlySlc s (Slc.shipHello d s).1 := by
  unfold Slc.shipHello
  simp only
  (repeat' split) <;> rfl

/-- Settles O36: a compatible SHIP-HELLO by where its CEILING goes, an incompatible one by its cause. -/
theorem shipHelloSetsTheLink : Obligations.ShipHelloSetsTheLink := by
  intro d s hd hl o frequencyOk voltageOk
  have ho : o = Slc.shipHello d s.hunted := (Slc.message_of_connected _ hl).trans (if_pos hd)
  have hf : frequencyOk ↔ helloFrequencyOk s.hunted.figs d = true := (helloFrequencyOk_iff s.figs d).symm
  have hv : voltageOk ↔ helloVoltageOk s.hunted.figs d = true := (helloVoltageOk_iff s.figs d).symm
  have only : o.1 = s.setSlc o.1.slc := by
    rw [ho]
    exact (show OnlySlc s s.hunted from rfl).trans (Slc.shipHello_only d s.hunted)
  refine ⟨rfl, only, fun kf kv => ?_, fun kf => ?_, fun kf kv => ?_, fun k hu => ?_⟩
  · obtain ⟨c, e, hlink, hq, hsil, hceil, hnum, hh, hc, hoc, hoo, hinc, hnew, hfloor, hloss⟩ :=
      Slc.shipHello_compatible (s := s.hunted) (hf.mp kf) (hv.mp kv)
    obtain ⟨q, x, eq⟩ := Slc.sendCeiling_eq s.hunted.ceilingContent c
    obtain ⟨hclosed, hopen⟩ := offers_eq (fieldNat d 18 1)
    have hslc : o.1.slc = c.sendCeiling s.hunted.ceilingContent := by rw [ho, e]; rfl
    have mem := Slc.mem_sendCeiling (k := s.hunted.ceilingContent) hlink
    rw [hq] at mem
    rw [ho] at hslc ⊢
    rw [hslc]
    refine ⟨by rw [eq]; exact hlink, by rw [eq]; exact hnum, by rw [eq]; exact hh, by rw [eq]; exact hc,
      by rw [eq]; exact hoc.trans hclosed, by rw [eq]; exact hoo.trans hopen, by rw [eq]; exact hinc,
      by rw [eq]; exact hsil, by rw [eq]; exact hceil, by rw [eq]; rfl, mem, fun k => ?_, hfloor, hloss⟩
    rw [eq]
    exact hnew k
  · have k : ¬helloFrequencyOk s.hunted.figs d = true := fun k => kf (hf.mpr k)
    obtain ⟨h1, h2, -⟩ := Slc.shipHello_incompatible (s := s.hunted) fun h => k h.1
    rw [ho]
    exact ⟨h1, h2.trans (if_neg k)⟩
  · obtain ⟨h1, h2, -⟩ := Slc.shipHello_incompatible (s := s.hunted) fun h => kv (hv.mpr h.2)
    rw [ho]
    exact ⟨h1, h2.trans (if_pos (hf.mp kf))⟩
  · obtain ⟨-, -, h⟩ := Slc.shipHello_incompatible (s := s.hunted) fun h => k ⟨hf.mpr h.1, hv.mpr h.2⟩
    rw [ho]
    exact h hu

end Sys2Proof.Machine

namespace Sys2Proof.Machine

/-! ### Reception, byte by byte -/

section Reception

variable {s : State} {b : Byte} {bs : List Byte}

/-- What is due does not look at the ship link. -/
theorem State.settled_setSlc (c : Slc) (h : s.settled = true) : (s.setSlc c).settled = true :=
  settled_congr (s := s) rfl rfl rfl h

theorem Slc.conclude_of_settled (c : Slc) (h : s.settled = true) :
    Out.outcome (s.setSlc c, []) = .next (s.setSlc c).refresh :=
  congrArg _ (Out.conclude_settled _ (State.settled_setSlc c h))

/-- R112: the state with the receiver in a frame whose bytes so far are `bs`. -/
def State.receiving (bs : List Byte) (s : State) : State := s.setSlc { s.slc with rx := .inFrame bs, gap := some 10 }

theorem Slc.receive_of_down (b : Byte) (f : Bool) (h : s.slc.link = .down) : Slc.receive b f s = (s, []) :=
  if_pos (by simpa using h)

variable (hl : s.slc.link ≠ .down)
include hl

theorem Slc.receive_start (hr : s.slc.rx = .hunting) : Slc.receive 0x7E#8 false s = (s.receiving [], []) := by
  unfold Slc.receive
  rw [if_neg (by simpa using hl), hr]
  rfl

theorem Slc.receive_noise (hr : s.slc.rx = .hunting) {f : Bool} (h : b ≠ 0x7E#8 ∨ f = true) :
    Slc.receive b f s = (s, []) := by
  unfold Slc.receive
  rw [if_neg (by simpa using hl), hr]
  refine if_neg fun k => ?_
  rw [Bool.and_eq_true, beq_iff_eq, Bool.not_eq_true'] at k
  obtain h | h := h
  · exact h k.1
  · exact absurd (h.symm.trans k.2) Bool.true_eq_false_eq_False

variable (hr : s.slc.rx = .inFrame bs)
include hr

theorem Slc.receive_framingError : Slc.receive b true s = (s.hunted, []) := by
  unfold Slc.receive
  rw [if_neg (by simpa using hl), hr]
  rfl

theorem Slc.receive_long (h : (bs ++ [b]).length = 2) (hb : 24 < b.toNat) : Slc.receive b false s = (s.hunted, []) := by
  unfold Slc.receive
  rw [if_neg (by simpa using hl), hr]
  simp only [Bool.false_eq_true, if_false]
  exact if_pos ⟨h, hb⟩

/-- R112: a byte that joins a frame not yet complete. -/
theorem Slc.receive_joins (hn : ¬((bs ++ [b]).length = 2 ∧ 24 < b.toNat))
    (h : (bs ++ [b]).length < 2 ∨ (bs ++ [b]).length < fieldNat (bs ++ [b]) 1 1 + 4) :
    Slc.receive b false s = (s.receiving (bs ++ [b]), []) := by
  unfold Slc.receive
  rw [if_neg (by simpa using hl), hr]
  simp only [Bool.false_eq_true, if_false]
  rw [if_neg hn, if_neg (by omega)]
  rfl

/-- R113: the last byte of a frame. -/
theorem Slc.receive_last (h : 2 ≤ (bs ++ [b]).length) (hlast : fieldNat (bs ++ [b]) 1 1 + 4 ≤ (bs ++ [b]).length) :
    Slc.receive b false s =
      if frameValid (bs ++ [b]) then
        Slc.dispatch (fieldNat (bs ++ [b]) 0 1) (((bs ++ [b]).drop 2).take (fieldNat (bs ++ [b]) 1 1)) s.hunted
      else (s.hunted, []) := by
  unfold Slc.receive
  rw [if_neg (by simpa using hl), hr]
  simp only [Bool.false_eq_true, if_false]
  rw [if_neg (by omega), if_pos ⟨h, hlast⟩]
  rfl

end Reception

/-- R113: the checks of a complete frame. -/
theorem frameValid_iff (bs : List Byte) : frameValid bs = true ↔ shipKindLength (fieldNat bs 0 1) = some
    (fieldNat bs 1 1) ∧
    bs.drop (2 + fieldNat bs 1 1) = crcBytes (bs.take (2 + fieldNat bs 1 1)) := by
  unfold frameValid
  simp only [Bool.and_eq_true, beq_iff_eq]

/-! ### SHIP-STATUS, requests and discards -/

section Requests

variable {s : State}

theorem Slc.request_of_not_up (f : State → Out) (h : s.slc.link ≠ .up) : Slc.request f s = (s, []) :=
  if_neg (by simpa using h)

theorem Slc.shipStatus_of_not_up (d : List Byte) (h : s.slc.link ≠ .up) : Slc.shipStatus d s = (s, []) :=
  if_neg (by simpa using h)

theorem Slc.shipStatus_of_up (d : List Byte) (h : s.slc.link = .up) :
    Slc.shipStatus d s = (s.setSlc { s.slc.takeStatus d s.csq.runTime with silence := some 5000 }, [.shcPass]) :=
  if_pos (by simpa using h)

/-- R117, R122: the commands of the ship that only a link in UP takes. -/
theorem exec_of_not_up {c : Instr} (hc : isRequest c = true ∨ ∃ d, c = .shipStatus d) :
    ∃ f : State → Out, (∀ s, exec c s = (Slc.message f s).outcome) ∧ ∀ s, s.slc.link ≠ .up → f s = (s, []) := by
  obtain h | ⟨d, rfl⟩ := hc
  · cases c with
    | transferIn m => exact ⟨_, fun _ => rfl, fun s => Slc.request_of_not_up (Csq.transferIn (Mode.ofByte m))⟩
    | ready => exact ⟨_, fun _ => rfl, fun s => Slc.request_of_not_up Csq.readyMsg⟩
    | unloaded => exact ⟨_, fun _ => rfl, fun s => Slc.request_of_not_up Csq.unloadedMsg⟩
    | handback m => exact ⟨_, fun _ => rfl, fun s => Slc.request_of_not_up (Csq.handbackMsg (Mode.ofByte m))⟩
    | taken => exact ⟨_, fun _ => rfl, fun s => Slc.request_of_not_up Csq.takenMsg⟩
    | abandon => exact ⟨_, fun _ => rfl, fun s => Slc.request_of_not_up Csq.abandonMsg⟩
    | _ => exact absurd h Bool.false_ne_true
  · refine ⟨_, fun _ => rfl, fun s h => ?_⟩
    show (if d.length = 12 then Slc.shipStatus d s else (s, [])) = _
    rw [Slc.shipStatus_of_not_up d h, ite_self]

end Requests

/-- Settles O37: a SHIP-STATUS by its figures, every discard by the state that it leaves the receiver in. -/
theorem shipStatusAndDiscards : Obligations.ShipStatusAndDiscards := by
  refine fun s => ⟨fun d hd hu => ?status, fun hs => ⟨Slc.conclude_of_settled _ hs, fun hg => ?gap,
    fun c hc => ⟨fun hu hd => ?discard, fun hd => ?down⟩⟩⟩
  case status =>
    intro o energy departure
    have hl : s.slc.link ≠ .down := by rw [hu]; simp
    have ho : o = _ := ((Slc.message_of_connected _ hl).trans (if_pos hd)).trans (Slc.shipStatus_of_up (s :=
      s.hunted) d hu)
    refine ⟨rfl, by rw [ho]; rfl, by rw [ho], by rw [ho]; rfl, by rw [ho]; rfl, fun k => ?_, fun k => ?_, fun k => ?_,
      fun k => ?_, by rw [ho]; rfl⟩ <;> rw [ho]
    · exact if_pos (beq_iff_eq.mpr k)
    · exact if_neg fun e => k (beq_iff_eq.mp e)
    · exact ⟨if_pos (beq_iff_eq.mpr k), if_pos (beq_iff_eq.mpr k)⟩
    · exact ⟨if_neg fun e => k (beq_iff_eq.mp e), if_neg fun e => k (beq_iff_eq.mp e)⟩
  case gap =>
    show Out.outcome (Slc.gapExpired s) = _
    unfold Slc.gapExpired
    rw [if_pos hg]
    exact Slc.conclude_of_settled _ hs
  case discard =>
    obtain ⟨f, e, hf⟩ := exec_of_not_up hc
    rw [e, Slc.message_of_connected f hd, hf s.hunted hu]
    exact Slc.conclude_of_settled _ hs
  case down =>
    obtain ⟨f, e, -⟩ := exec_of_not_up hc
    rw [e, Slc.message_of_down f hd]
    exact congrArg _ (Out.conclude_settled s hs)

/-! ### Timers and transmission -/

section Timers

variable {s : State}

/-- R114: the first message of an idle line is sent at once. -/
theorem Slc.begin_of_first {c : Slc} (m : ShipMsg) (hi : c.sending = none) (hq : c.queue = []) :
    Slc.begin { c with queue := putMsg m c.queue } = { c with sending := some m } := by
  have e : putMsg m c.queue = [m] := by rw [hq, putMsg_nil]
  rw [e, Slc.begin_of_idle (c := { c with queue := [m] }) hi]
  exact congrArg (fun q => { c with queue := q, sending := some m }) hq.symm

theorem Slc.helloExpired_of_runs (h : s.slc.hello.isSome = true) :
    Slc.helloExpired s = (s.setSlc (s.slc.announce s.berthHello), []) := if_pos h

theorem State.berthHello_allowed (hu : s.slc.link ≠ .up) (hd : s.slc.link ≠ .down) :
    s.berthHello.allowed s.slc.link = true := by
  show (s.slc.link == .waiting || s.slc.link == .incompatible || s.slc.link == .lost) = true
  cases h : s.slc.link with
  | up => exact absurd h hu
  | down => exact absurd h hd
  | _ => rfl

/-- R114, R124: the BERTH-HELLO of an expired hello timer. -/
theorem Slc.announce_hello (hu : s.slc.link ≠ .up) (hd : s.slc.link ≠ .down) : s.slc.announce s.berthHello =
    Slc.begin { s.slc with hello := some 10000, queue := putMsg s.berthHello s.slc.queue } :=
  Slc.order_of_allowed (c := { s.slc with hello := some 10000 }) (State.berthHello_allowed hu hd)

theorem Slc.ceilingExpired_of_runs (h : s.slc.ceiling.isSome = true) (hu : s.slc.link = .up) : Slc.ceilingExpired s =
    (s.setSlc (Slc.begin
      { s.slc with
        ceiling := some 5000
        queue := putMsg (.ceiling s.ceilingContent.1 s.ceilingContent.2) s.slc.queue }), []) := by
  unfold Slc.ceilingExpired
  rw [if_pos h]
  exact congrArg (fun c => (s.setSlc c, []))
    (Slc.order_of_allowed (c := { s.slc with ceiling := some 5000 }) (by rw [hu]; rfl))

theorem Slc.transmitEnd_of_sending (h : s.slc.sending.isSome = true) : Slc.transmitEnd s =
    (s.setSlc { s.slc with sending := s.slc.queue.head?, queue := s.slc.queue.drop 1 }, []) := by
  unfold Slc.transmitEnd
  rw [if_pos h, Slc.begin_of_idle rfl]

end Timers

/-- Settles O39: each timer by the order it makes, each byte by the state of the receiver. -/
theorem shipLinkTimersRun : Obligations.ShipLinkTimersRun := by
  refine fun s => ⟨fun hr hu => ?silence, fun hs => ⟨fun hr hu hd hq hi => ?helloIdle, fun hr hu hd hb => ?helloBusy,
    fun hr hu hq hi => ?ceilingIdle, fun hr hu hb => ?ceilingBusy, fun hr => ?hold, fun hb => ?transmit,
    fun hl hr => ⟨?start, fun b f h => ?noise⟩, fun hd b f => ?down, fun bs b hl hr => ?inFrame⟩⟩
  case silence =>
    intro o
    have ho : o = Slc.change .lost (s.setSlc { s.slc with silence := none }) := if_pos hr
    have hl : (s.slc.link == .up) = true := by simpa using hu
    have hslc : o.1.slc = Slc.announce (s.setSlc { s.slc with silence := none }).berthHello
        { Slc.leaveUp { s.slc with silence := none } with link := .lost } := by
      rw [ho]
      have e : (if s.slc.link == .up then Slc.leaveUp { s.slc with silence := none } else { s.slc with silence := none }) =
          Slc.leaveUp { s.slc with silence := none } := if_pos hl
      rw [← e]
      rfl
    obtain ⟨q, x, e⟩ := Slc.announce_eq (s.setSlc { s.slc with silence := none }).berthHello
      { Slc.leaveUp { s.slc with silence := none } with link := .lost }
    rw [hslc, e]
    refine ⟨rfl, ?_, rfl, rfl, rfl, rfl, rfl, ?_⟩
    · rw [← e, ← hslc, ho]
      rfl
    · rw [ho]
      show (if s.slc.link == .up then [Handoff.csqLinkLoss] else []) ++ [.atuSources] = _
      rw [if_pos hl]
      rfl
  case helloIdle =>
    show Out.outcome (Slc.helloExpired s) = _
    rw [Slc.helloExpired_of_runs hr, Slc.announce_hello hu hd,
      Slc.begin_of_first (c := { s.slc with hello := some 10000 }) _ hi hq]
    exact Slc.conclude_of_settled _ hs
  case helloBusy =>
    show Out.outcome (Slc.helloExpired s) = _
    rw [Slc.helloExpired_of_runs hr, Slc.announce_hello hu hd,
      Slc.begin_of_busy (c := { s.slc with hello := some 10000, queue := putMsg s.berthHello s.slc.queue }) hb,
      putMsg_of_hello rfl]
    exact Slc.conclude_of_settled _ hs
  case ceilingIdle =>
    show Out.outcome (Slc.ceilingExpired s) = _
    rw [Slc.ceilingExpired_of_runs hr hu, Slc.begin_of_first (c := { s.slc with ceiling := some 5000 }) _ hi hq]
    exact Slc.conclude_of_settled _ hs
  case ceilingBusy =>
    intro m
    show Out.outcome (Slc.ceilingExpired s) = _
    rw [Slc.ceilingExpired_of_runs hr hu,
      Slc.begin_of_busy (c := { s.slc with ceiling := some 5000, queue := putMsg m s.slc.queue }) hb,
      putMsg_of_ceiling rfl]
    exact Slc.conclude_of_settled _ hs
  case hold =>
    show Out.outcome (Slc.linkHoldExpired s) = _
    unfold Slc.linkHoldExpired
    rw [if_pos hr]
    exact Slc.conclude_of_settled _ hs
  case transmit =>
    show Out.outcome (Slc.transmitEnd s) = _
    rw [Slc.transmitEnd_of_sending hb]
    exact Slc.conclude_of_settled _ hs
  case start =>
    show Out.outcome (Slc.receive 0x7E#8 false s) = _
    rw [Slc.receive_start hl hr]
    exact Slc.conclude_of_settled _ hs
  case noise =>
    show Out.outcome (Slc.receive b f s) = _
    rw [Slc.receive_noise hl hr h]
    exact congrArg _ (Out.conclude_settled s hs)
  case down =>
    show Out.outcome (Slc.receive b f s) = _
    rw [Slc.receive_of_down b f hd]
    exact congrArg _ (Out.conclude_settled s hs)
  case inFrame =>
    intro hunting frame len
    refine ⟨?_, fun h2 hb => ?_, fun hn h => ?_, fun h2 hlast hbad => ?_⟩
    · show Out.outcome (Slc.receive b true s) = _
      rw [Slc.receive_framingError hl hr]
      exact Slc.conclude_of_settled _ hs
    · show Out.outcome (Slc.receive b false s) = _
      rw [Slc.receive_long hl hr h2 hb]
      exact Slc.conclude_of_settled _ hs
    · show Out.outcome (Slc.receive b false s) = _
      rw [Slc.receive_joins hl hr hn h]
      exact Slc.conclude_of_settled _ hs
    · show Out.outcome (Slc.receive b false s) = _
      rw [Slc.receive_last hl hr h2 hlast, if_neg]
      · exact Slc.conclude_of_settled _ hs
      · rw [frameValid_iff]
        exact fun k => hbad.elim (fun e => e k.1) fun e => e k.2

end Sys2Proof.Machine

namespace Sys2Proof.Machine

/-! ### The bytes of a message -/

section Bytes

variable {s : State}

theorem fieldNat_append_left {p r : List Byte} {start w : Nat} (h : start + w ≤ p.length) :
    fieldNat (p ++ r) start w = fieldNat p start w := by
  unfold fieldNat
  rw [List.drop_append_of_le_length (by omega), List.take_append_of_le_length (by rw [List.length_drop]; omega)]

/-- A byte as the number that it spells. -/
theorem fieldNat_singleton (b : Byte) (bs : List Byte) : fieldNat (b :: bs) 0 1 = b.toNat := by
  simp [fieldNat, beNat]

/-- The second byte of a frame of two. -/
theorem fieldNat_second {bs : List Byte} {b : Byte} (h : (bs ++ [b]).length = 2) : fieldNat (bs ++ [b]) 1 1 = b.toNat :=
    by
  have hl : bs.length = 1 := by
    rw [List.length_append, List.length_singleton] at h
    omega
  have := fieldNat_append bs [b] 0 1
  rw [hl] at this
  rw [this, fieldNat_singleton]

/-- Output lines that follow the state stay as they are. -/
theorem State.refresh_of_out (h : s.out = s.lines) : s.refresh = s := by
  unfold State.refresh
  rw [← h]
  rfl

/-- R112, R113: the rest of a frame received, from the state in which its first bytes have joined. -/
theorem receiveBytes_rest (hl : s.slc.link ≠ .down) (hs : s.settled = true) (hout : s.out = s.lines) {frame : List Byte}
    (hf : frame.length = fieldNat frame 1 1 + 4) (h24 : fieldNat frame 1 1 ≤ 24) (rest : List Byte) :
    ∀ bs, bs ++ rest = frame → rest ≠ [] → receiveBytes rest (s.receiving bs) =
      (if frameValid frame then
        Slc.dispatch (fieldNat frame 0 1) ((frame.drop 2).take (fieldNat frame 1 1)) s.hunted
      else (s.hunted, [])).outcome := by
  induction rest with
  | nil => exact fun _ _ h => absurd rfl h
  | cons b rest ih =>
    intro bs hb _
    have step : exec (.shipLinkByteReceived b false) (s.receiving bs) =
        (Slc.receive b false (s.receiving bs)).outcome := rfl
    have joined : bs ++ [b] ++ rest = frame := by rw [← hb, List.append_assoc]; rfl
    unfold receiveBytes
    rw [step]
    by_cases hr : rest = []
    · obtain rfl : bs ++ [b] = frame := by rw [← joined, hr, List.append_nil]
      rw [Slc.receive_last (s := s.receiving bs) hl rfl (by omega) (by omega), hr]
      rfl
    · have hlen : (bs ++ [b]).length < frame.length := by
        rw [← joined, List.length_append (as := bs ++ [b])]
        have := List.length_pos_of_ne_nil hr
        omega
      have same (h2 : 2 ≤ (bs ++ [b]).length) : fieldNat (bs ++ [b]) 1 1 = fieldNat frame 1 1 := by
        rw [← joined, fieldNat_append_left (p := bs ++ [b]) h2]
      rw [Slc.receive_joins (s := s.receiving bs) hl rfl]
      · have e : (s.receiving (bs ++ [b])).refresh = s.receiving (bs ++ [b]) := State.refresh_of_out hout
        have k : Out.outcome ((s.receiving bs).receiving (bs ++ [b]), []) = .next (s.receiving (bs ++ [b])) :=
          (Slc.conclude_of_settled (s := s) _ hs).trans (congrArg _ e)
        rw [k]
        exact ih (bs ++ [b]) joined hr
      · rintro ⟨h2, hbig⟩
        have := same h2.ge
        rw [fieldNat_second h2] at this
        omega
      · by_cases h2 : (bs ++ [b]).length < 2
        · exact .inl h2
        · rw [same (by omega)]
          exact .inr (by omega)

/-- Section 7.1: a frame from its kind byte to its CRC. -/
def frameBytes (kind : Nat) (payload : List Byte) : List Byte :=
  let body := beBytes 1 kind ++ beBytes 1 payload.length ++ payload
  body ++ crcBytes body

theorem lineBytes_eq (kind : Nat) (payload : List Byte) : lineBytes kind payload = 0x7E#8 :: frameBytes kind payload :=
    rfl

/-- Section 7.1, R113: the parts of a frame of a kind with its own length. -/
theorem frameBytes_parts {kind : Nat} {payload : List Byte} (hk : kind < 256) (hp : payload.length ≤ 24)
    (hl : shipKindLength kind = some payload.length) :
    let f := frameBytes kind payload
    fieldNat f 0 1 = kind ∧ fieldNat f 1 1 = payload.length ∧ f.length = payload.length + 4 ∧
      (f.drop 2).take payload.length = payload ∧ frameValid f = true := by
  intro f
  let body := beBytes 1 kind ++ beBytes 1 payload.length ++ payload
  have hf : f = body ++ crcBytes body := rfl
  have hbody : body = beBytes 1 kind ++ (beBytes 1 payload.length ++ payload) := List.append_assoc ..
  have hblen : body.length = 2 + payload.length := by simp [body]; omega
  have hcrc : (crcBytes body).length = 2 := beBytes_length 2 _
  have h0 : fieldNat f 0 1 = kind := by
    rw [hf, fieldNat_append_left (by omega), hbody, fieldNat_beBytes, Nat.pow_one, Nat.mod_eq_of_lt hk]
  have h1 : fieldNat f 1 1 = payload.length := by
    rw [hf, fieldNat_append_left (by omega), hbody, fieldNat_beBytes_skip 1 _ _ 0 1, fieldNat_beBytes, Nat.pow_one,
      Nat.mod_eq_of_lt (by omega)]
  refine ⟨h0, h1, by rw [hf, List.length_append, hblen, hcrc]; omega, ?_, ?_⟩
  · have e : f.drop 2 = payload ++ crcBytes body := rfl
    rw [e, List.take_left]
  · rw [frameValid_iff, h0, h1, hf, ← hblen, List.drop_left, List.take_left]
    exact ⟨hl, rfl⟩

/-- R112, R113: a whole frame received by a hunting receiver. -/
theorem receiveBytes_line {kind : Nat} {payload : List Byte} (hk : kind < 256) (hp : payload.length ≤ 24)
    (hkind : shipKindLength kind = some payload.length) (hl : s.slc.link ≠ .down) (hs : s.settled = true)
    (hr : s.slc.rx = .hunting) (hout : s.out = s.lines) :
    receiveBytes (lineBytes kind payload) s = (Slc.dispatch kind payload s.hunted).outcome := by
  obtain ⟨h0, h1, hlen, hpay, hvalid⟩ := frameBytes_parts hk hp hkind
  have start : exec (.shipLinkByteReceived 0x7E#8 false) s = .next (s.receiving []) := by
    show Out.outcome (Slc.receive 0x7E#8 false s) = _
    rw [Slc.receive_start hl hr]
    exact (Slc.conclude_of_settled (s := s) _ hs).trans (congrArg _ (State.refresh_of_out hout))
  rw [lineBytes_eq, receiveBytes, start]
  show receiveBytes (frameBytes kind payload) (s.receiving []) = _
  have rest := receiveBytes_rest hl hs hout (frame := frameBytes kind payload) (by rw [h1]; exact hlen)
    (by rw [h1]; exact hp) (frameBytes kind payload) [] (List.nil_append _) (List.ne_nil_of_length_pos (by omega))
  rw [rest, if_pos hvalid, h0, h1, hpay]

theorem ofNat_fieldNat_singleton (b : Byte) : BitVec.ofNat 8 (fieldNat [b] 0 1) = b := by
  rw [fieldNat_singleton, BitVec.ofNat_toNat, BitVec.setWidth_eq]

/-- Section 12.4: each message of the ship is its kind's dispatch. -/
theorem exec_of_shipFrame {c : Instr} {kind : Nat} {payload : List Byte} (h : shipFrameOf c = some (kind, payload))
    (hw : c.wellFormed = true) : kind < 256 ∧ payload.length ≤ 24 ∧ shipKindLength kind = some payload.length ∧
      ∃ f, (∀ s, exec c s = (Slc.message f s).outcome) ∧ ∀ s, Slc.dispatch kind payload s = f s := by
  have mode (b : Byte) : Mode.ofByte (BitVec.ofNat 8 (fieldNat [b] 0 1)) = Mode.ofByte b := by
    rw [ofNat_fieldNat_singleton]
  cases c with
  | shipHello d =>
    obtain ⟨rfl, rfl⟩ : 1 = kind ∧ d = payload := by simpa [shipFrameOf] using h
    have hd : d.length = 24 := by simpa [Instr.wellFormed] using hw
    exact ⟨by omega, by omega, by rw [hd]; rfl, _, fun _ => rfl, fun s => (if_pos hd).symm⟩
  | shipStatus d =>
    obtain ⟨rfl, rfl⟩ : 2 = kind ∧ d = payload := by simpa [shipFrameOf] using h
    have hd : d.length = 12 := by simpa [Instr.wellFormed] using hw
    exact ⟨by omega, by omega, by rw [hd]; rfl, _, fun _ => rfl, fun s => (if_pos hd).symm⟩
  | transferIn m | handback m =>
    obtain ⟨rfl, rfl⟩ := Prod.mk.inj (Option.some.inj h)
    refine ⟨by omega, by simp, rfl, _, fun _ => rfl, fun s => ?_⟩
    rw [← mode m]
    rfl
  | ready | unloaded | taken | abandon =>
    obtain ⟨rfl, rfl⟩ := Prod.mk.inj (Option.some.inj h)
    exact ⟨by omega, by decide, rfl, _, fun _ => rfl, fun s => rfl⟩
  | _ => exact absurd h (by simp [shipFrameOf])

end Bytes

/-- Settles O38: by induction on the bytes still to come, each front part of the frame leaving the receiver in it. -/
theorem bytesSpellTheMessage : Obligations.BytesSpellTheMessage := by
  intro c kind payload s hc hw _ hs hl hr hout
  obtain ⟨hk, hp, hkind, f, e, hf⟩ := exec_of_shipFrame hc hw
  rw [receiveBytes_line hk hp hkind hl hs hr hout, e, Slc.message_of_connected f hl, hf]

end Sys2Proof.Machine

namespace Sys2Proof.Machine

/-! ## The ends of a transfer and of a connection -/

/-! ### An aborted transfer -/

section Abort

variable {s : State} {c : Cause} {trip : Bool}

/-- HOOKED and VACANT: what their entry leaves of the sequencer. -/
theorem Csq.enterRest_eq (s : State) :
    (Csq.enterRest s = Csq.enter .hooked id s) ∨
      Csq.enterRest s = Csq.enter .vacant (fun c => { c with retry := 0, closeFail := 0 }) s := by
  unfold Csq.enterRest
  split
  · exact .inl rfl
  · exact .inr rfl

/-- R38: the two ways out of a transfer. -/
theorem Csq.wayOut_cases (trip : Bool) (o : Out) :
    (o.1.straightOut = true ∧
      Csq.wayOut trip o = ((Csq.enterRest o.1).1, o.2 ++ withdrawals ++ .psmRelease :: (Csq.enterRest o.1).2)) ∨
    Csq.wayOut trip o = ((Csq.enterIsolating trip o.1).1,
      .bkdOpen :: (o.2 ++ withdrawals ++ (Csq.enterIsolating trip o.1).2)) := by
  unfold Csq.wayOut
  split
  next h => exact .inl ⟨h, rfl⟩
  · exact .inr rfl

/-- R38: the sequencer's items after the abort of a TRANSFER-IN, before its way out. -/
def Csq.abortedWith (r : Record) (c : Csq) : Csq := { c.write r with retry := min 3 (c.retry + 1) }

theorem Csq.abort_of_transfer {p : Procedure} (hp : s.csq.proc = some p) (hk : p.kind = .transferIn) :
    Csq.abort c trip s =
      Csq.wayOut trip (s.setCsq (s.csq.abortedWith (s.recordNow .transferIn .aborted c p.mode p.start)),
        [.atuSources, .slcOrder (.refused c)]) := by
  unfold Csq.abort
  rw [Csq.endProc_of_some .aborted c hp, hk]
  rfl

/-- R38: what the abort of a TRANSFER-IN leaves, and what it asks of the other blocks. -/
structure TransferAborted (s : State) (p : Procedure) (c : Cause) (trip : Bool) (o : Out) : Prop where
  log : o.1.csq.log = appendRecord s.csq.log (s.recordNow .transferIn .aborted c p.mode p.start)
  seq : o.1.csq.seq = nextSeq s.csq.seq
  proc : o.1.csq.proc = none
  marker : o.1.csq.marker = none
  phase : o.1.csq.phase = none
  mask : o.1.csq.mask = s.csq.mask
  retry : o.1.csq.state ≠ .vacant → o.1.csq.retry = min 3 (s.csq.retry + 1)
  refused : .slcOrder (.refused c) ∈ o.2
  withdrawn : ∀ h ∈ withdrawals, h ∈ o.2
  way : (o.1.csq.state = .isolating ∧ o.1.csq.tripIso = trip ∧ o.2.head? = some .bkdOpen ∧
    .csqEntered .isolating ∈ o.2) ∨
    ((o.1.csq.state = .hooked ∨ o.1.csq.state = .vacant) ∧ s.csq.state ≠ .parallel ∧ s.bkd.state = .opened ∧
      s.esd.state = .closed ∧ s.releaseAtOnce = true ∧ .psmRelease ∈ o.2)

theorem Csq.abort_transfer {p : Procedure} (hp : s.csq.proc = some p) (hk : p.kind = .transferIn) :
    TransferAborted s p c trip (Csq.abort c trip s) := by
  rw [Csq.abort_of_transfer hp hk]
  obtain ⟨hs, e⟩ | e := Csq.wayOut_cases trip
    (s.setCsq (s.csq.abortedWith (s.recordNow .transferIn .aborted c p.mode p.start)), [.atuSources,
      .slcOrder (.refused c)])
  · have hs : (s.csq.state != .parallel && s.bkd.state == .opened && s.esd.state == .closed && s.releaseAtOnce) = true := hs
    simp only [Bool.and_eq_true, bne_iff_ne, beq_iff_eq] at hs
    obtain ⟨⟨⟨h1, h2⟩, h3⟩, h4⟩ := hs
    rw [e]
    obtain e | e := Csq.enterRest_eq
      (s.setCsq (s.csq.abortedWith (s.recordNow .transferIn .aborted c p.mode p.start)))
    · rw [e]
      exact ⟨rfl, rfl, rfl, rfl, rfl, rfl, fun _ => rfl, by simp, fun h hw => by simp [hw],
        .inr ⟨.inl rfl, h1, h2, h3, h4, by simp⟩⟩
    · rw [e]
      exact ⟨rfl, rfl, rfl, rfl, rfl, rfl, fun k => absurd rfl k, by simp, fun h hw => by simp [hw],
        .inr ⟨.inr rfl, h1, h2, h3, h4, by simp⟩⟩
  · rw [e]
    exact ⟨rfl, rfl, rfl, rfl, rfl, rfl, fun _ => rfl, by simp, fun h hw => by simp [hw],
      .inl ⟨rfl, rfl, rfl, by simp [Csq.enterIsolating, Csq.enter, stateChanged]⟩⟩

end Abort

/-! ### Phase limits -/

section Phase

variable {s : State}

/-- R38: the state in which an expired phase limit is dealt with. -/
def State.unphased (s : State) : State := s.setCsq { s.csq with phase := none }

theorem State.provingCause_eq (s : State) :
    s.provingCause = if s.spv.proven = false then .shoreUnstable else if s.clu.kf = 0 then .budget else .switchTimeout := by
  unfold State.provingCause
  cases s.spv.proven <;> rfl

theorem State.sub_cause (a b : Cause) (sub : SubPhase) :
    (if sub == .awaitingReady then a else b) = if sub = .awaitingReady then a else b := by
  cases sub <;> rfl

/-- R43 to R48: the expired limit of a phase of a TRANSFER-IN. -/
theorem Csq.phaseExpired_of_cause (hp : s.csq.phase.isSome = true) {c : Cause} (hc : s.phaseCause = some c) :
    Csq.phaseExpired s = Csq.abort c false s.unphased := by
  have cause {q : SeqState} (h : s.unphased.csq.state = q) : s.csq.state = q := h
  unfold State.phaseCause at hc
  unfold Csq.phaseExpired
  rw [if_neg (by simpa [Option.isSome_iff_ne_none] using hp)]
  simp only
  split
  next h =>
    rw [cause h] at hc
    obtain rfl := Option.some.inj hc
    exact congrArg (Csq.abort · false s.unphased) s.provingCause_eq
  next h =>
    rw [cause h] at hc
    obtain rfl := Option.some.inj hc
    rfl
  next h =>
    rw [cause h] at hc
    obtain rfl := Option.some.inj hc
    exact congrArg (Csq.abort · false s.unphased) (State.sub_cause _ _ s.csq.sub)
  next h =>
    rw [cause h] at hc
    obtain rfl := Option.some.inj hc
    exact congrArg (Csq.abort · false s.unphased) (State.sub_cause _ _ s.csq.sub)
  next h =>
    rw [cause h] at hc
    obtain rfl := Option.some.inj hc
    rfl
  all_goals
    next h =>
      rw [cause h] at hc
      exact absurd hc (by simp)

theorem Csq.phaseExpired_of_handback (hp : s.csq.phase.isSome = true) (hs : s.csq.state = .handback) :
    Csq.phaseExpired s = (Csq.endProc .aborted .shipTimeout s.unphased).andThen Csq.returnToShore := by
  simp [Csq.phaseExpired, hs, State.unphased, Option.isSome_iff_ne_none.mp hp]

theorem Csq.phaseExpired_of_unloading (hp : s.csq.phase.isSome = true) (hs : s.csq.state = .unloading) :
    Csq.phaseExpired s = Csq.isolateWith .forced .unloadTimeout s.unphased := by
  simp [Csq.phaseExpired, hs, State.unphased, Option.isSome_iff_ne_none.mp hp]

end Phase

/-- Settles O20: a TRANSFER-IN by its abort, a HANDBACK by its return, an UNLOADING by the forced opening. -/
theorem phaseLimitEndsThePhase : Obligations.PhaseLimitEndsThePhase := by
  intro s p hp hproc o
  refine ⟨rfl, Csq.phaseExpired_only s, fun hk c hc => ?transfer, fun hk hs => ?handback, fun hs => ?unloading⟩
  case transfer =>
    have ho : o = _ := Csq.phaseExpired_of_cause hp hc
    have h := Csq.abort_transfer (s := s.unphased) (c := c) (trip := false) hproc hk
    rw [← ho] at h
    refine ⟨h.log, h.seq, h.proc, h.marker, h.phase, h.retry, h.refused, h.withdrawn, h.way.imp (fun k => ?_) id⟩
    obtain ⟨hstate, -, hhead, -⟩ := k
    exact ⟨hstate, hhead⟩
  case handback =>
    have ho : o = _ := Csq.phaseExpired_of_handback hp hs
    rw [ho, Csq.endProc_of_some .aborted .shipTimeout (s := s.unphased) hproc, hk]
    exact ⟨rfl, rfl, rfl, rfl, rfl, by simp [Out.andThen, answeredRefused]⟩
  case unloading =>
    have ho : o = _ := Csq.phaseExpired_of_unloading hp hs
    rw [ho]
    refine ⟨rfl, rfl, List.mem_cons_self, ?_⟩
    show s.csq.proc.map _ = _
    rw [hproc]
    rfl

end Sys2Proof.Machine

namespace Sys2Proof.Machine

/-! ### Trip notices -/

section Notice

variable {x : Source} {s : State} {p : Procedure}

/-- R62: the state in which a notice that is not fatal is dealt with. -/
def State.masked (s : State) : State := s.setCsq { s.csq with mask := true }

theorem Csq.notice_of_start (h : s.csq.state = .start) : Csq.notice x s = (s, []) := by
  unfold Csq.notice Csq.trippedFatal Csq.tripped
  simp [h]

theorem Csq.notice_of_idle (hx : x.fatal = false) (h : s.csq.state ∈ [SeqState.vacant, .hooked, .isolating, .lockout]) :
    Csq.notice x s = (s.masked, [.atuSources]) := by
  unfold Csq.notice Csq.tripped
  rw [if_neg (by simp [hx])]
  simp only [List.mem_cons, List.not_mem_nil, or_false] at h
  rcases h with h | h | h | h <;> rw [h] <;> rfl

/-- R62: in a phase of a TRANSFER-IN. -/
theorem Csq.notice_of_transfer (hx : x.fatal = false) (h : s.csq.state.transferring = true ∨ s.csq.state = .parallel) :
    Csq.notice x s =
      ((Csq.abort (.trip x) true s.masked).1, .atuSources :: (Csq.abort (.trip x) true s.masked).2) := by
  unfold Csq.notice Csq.tripped
  rw [if_neg (by simp [hx])]
  cases hs : s.csq.state <;> rw [hs] at h <;> first | rfl | exact absurd h (by simp [SeqState.transferring])

/-- R62, R63: the hand-offs of a connection that ends, before the next state is entered. -/
def endedHandoffs (kind : ProcKind) (ending : Ending) (c : Cause) : List Handoff :=
  .slcOrder .fallback :: .atuSources :: (if answeredRefused kind ending then [.slcOrder (.refused c)] else [])

/-- R62: a notice of a source that is not fatal ends a connection. -/
theorem Csq.notice_of_connected (hx : x.fatal = false) (h : s.csq.state = .shore ∨ s.csq.state = .releaseWait) :
    Csq.notice x s =
      let e := Csq.enterIsolating true (s.masked.setCsq (s.masked.csq.write
        (s.recordNow .fallback .forced (.trip x) .none (s.csq.shoreEntry.getD 0))))
      (e.1, .atuSources :: .slcOrder .fallback :: .atuSources :: e.2) := by
  unfold Csq.notice Csq.tripped
  rw [if_neg (by simp [hx])]
  rcases h with h | h <;> rw [h] <;> rfl

theorem Csq.notice_of_handback (hx : x.fatal = false) (h : s.csq.state = .handback) (hp : s.csq.proc = some p)
    (hk : p.kind = .handback) : Csq.notice x s =
      let e := Csq.enterIsolating true (s.masked.setCsq (s.masked.csq.write
        (s.recordNow .handback .aborted (.trip x) p.mode p.start)))
      (e.1, .atuSources :: (endedHandoffs .handback .aborted (.trip x) ++ e.2)) := by
  unfold Csq.notice Csq.tripped
  rw [if_neg (by simp [hx]), h]
  simp only
  rw [show Csq.endProc .aborted (.trip x) (s.setCsq _) = _ from
    Csq.endProc_of_some .aborted (.trip x) (s := s.masked) hp, hk]
  rfl

theorem Csq.notice_of_unloading (hx : x.fatal = false) (h : s.csq.state = .unloading) (hp : s.csq.proc = some p)
    (hk : p.kind = .handback) : Csq.notice x s =
      let e := Csq.enterIsolating true (s.masked.setCsq (s.masked.csq.write
        (s.recordNow .handback .forced (.trip x) p.mode p.start)))
      (e.1, .atuSources :: (endedHandoffs .handback .forced (.trip x) ++ e.2)) := by
  unfold Csq.notice Csq.tripped
  rw [if_neg (by simp [hx]), h]
  simp only
  rw [show Csq.endProc .forced (.trip x) (s.setCsq _) = _ from
    Csq.endProc_of_some .forced (.trip x) (s := s.masked) hp, hk]
  rfl

/-- R62: a notice that is not fatal sets the mask out of START. -/
theorem Csq.tripped_mask (h : s.csq.state ≠ .start) : (Csq.tripped x s).1.csq.mask = true := by
  have hm : s.masked.csq.mask = true := rfl
  unfold Csq.tripped
  simp only
  split
  next hs => exact absurd hs h
  · exact hm
  · exact hm
  · exact hm
  · exact hm
  iterate 5 exact (Csq.abort_moves (.trip x) true s.masked).mask hm
  · exact hm
  · exact hm
  · exact (Csq.endProc_moves .aborted (.trip x) s.masked).mask hm
  · exact (Csq.endProc_moves .forced (.trip x) s.masked).mask hm

/-- R63: a notice of a fatal source out of START and LOCKOUT: what is in progress ends, and LOCKOUT is entered. -/
theorem Csq.trippedFatal_cases (x : Source) {s : State} (h0 : s.csq.state ≠ .start) (h13 : s.csq.state ≠ .lockout) :
    ∃ o : Out, Csq.trippedFatal x s = o.andThen Csq.enterLockout ∧
      ((s.csq.state ∈ [SeqState.vacant, .hooked] ∧ o = (s, [])) ∨
        ((s.csq.state.transferring = true ∨ s.csq.state = .parallel) ∧ o = Csq.endProc .failed (.trip x) s) ∨
        ((s.csq.state = .shore ∨ s.csq.state = .releaseWait) ∧
          o = ((Csq.endFallback .failed (.trip x) s).1,
            .slcOrder .fallback :: (Csq.endFallback .failed (.trip x) s).2)) ∨
        (s.csq.state = .handback ∧
          o = ((Csq.endProc .failed (.trip x) s).1, .slcOrder .fallback :: (Csq.endProc .failed (.trip x) s).2)) ∨
        (s.csq.state = .unloading ∧
          o = ((Csq.endProc .forced (.trip x) s).1, .slcOrder .fallback :: (Csq.endProc .forced (.trip x) s).2)) ∨
        (s.csq.state = .isolating ∧ o = Csq.endProc .forced (.trip x) s)) := by
  unfold Csq.trippedFatal
  cases hs : s.csq.state with
  | start => exact absurd hs h0
  | lockout => exact absurd hs h13
  | vacant | hooked => exact ⟨_, rfl, .inl ⟨by simp, rfl⟩⟩
  | proving | ready | syncing | deadwait => exact ⟨_, rfl, .inr (.inl ⟨.inl rfl, rfl⟩)⟩
  | parallel => exact ⟨_, rfl, .inr (.inl ⟨.inr rfl, rfl⟩)⟩
  | shore => exact ⟨_, rfl, .inr (.inr (.inl ⟨.inl rfl, rfl⟩))⟩
  | releaseWait => exact ⟨_, rfl, .inr (.inr (.inl ⟨.inr rfl, rfl⟩))⟩
  | handback => exact ⟨_, rfl, .inr (.inr (.inr (.inl ⟨rfl, rfl⟩)))⟩
  | unloading => exact ⟨_, rfl, .inr (.inr (.inr (.inr (.inl ⟨rfl, rfl⟩))))⟩
  | isolating => exact ⟨_, rfl, .inr (.inr (.inr (.inr (.inr ⟨rfl, rfl⟩))))⟩

theorem Csq.endProc_no_fallback (e : Ending) (c : Cause) (s : State) : .slcOrder .fallback ∉ (Csq.endProc e c s).2 := by
  unfold Csq.endProc
  split
  · exact List.not_mem_nil
  · split <;> simp

theorem Csq.enterLockout_no_fallback (s : State) : .slcOrder .fallback ∉ (Csq.enterLockout s).2 := by
  simp [Csq.enterLockout, Csq.enter, stateChanged]

theorem Csq.fallback_mem_andThen_enterLockout (o : Out) :
    .slcOrder .fallback ∈ (o.andThen Csq.enterLockout).2 ↔ .slcOrder .fallback ∈ o.2 := by
  show _ ∈ o.2 ++ (Csq.enterLockout o.1).2 ↔ _
  rw [List.mem_append, or_iff_left (Csq.enterLockout_no_fallback o.1)]

/-- R63: FALLBACK goes to the ship exactly where a fatal source ends a connection. -/
theorem Csq.trippedFatal_fallback (x : Source) (s : State) :
    .slcOrder .fallback ∈ (Csq.trippedFatal x s).2 ↔
      (s.csq.state = .shore ∨ s.csq.state = .releaseWait) ∨ s.csq.state = .handback ∨ s.csq.state = .unloading := by
  by_cases h0 : s.csq.state = .start
  · simp [Csq.trippedFatal, h0]
  by_cases h13 : s.csq.state = .lockout
  · simp [Csq.trippedFatal, h13]
  have none (e : Ending) := Csq.endProc_no_fallback e (.trip x) s
  obtain ⟨o, e, h⟩ := Csq.trippedFatal_cases x h0 h13
  rw [e, Csq.fallback_mem_andThen_enterLockout]
  obtain ⟨h, rfl⟩ | ⟨h, rfl⟩ | ⟨h, rfl⟩ | ⟨h, rfl⟩ | ⟨h, rfl⟩ | ⟨h, rfl⟩ := h
  · simp only [List.mem_cons, List.not_mem_nil, or_false] at h
    rcases h with h | h <;> simp [h]
  · refine ⟨fun k => absurd k (none _), fun k => ?_⟩
    rcases k with (k | k) | k | k <;> simp [k, SeqState.transferring] at h
  · simp [h]
  · simp [h]
  · simp [h]
  · refine ⟨fun k => absurd k (none _), fun k => ?_⟩
    rcases k with (k | k) | k | k <;> simp [k] at h

/-- R63: the record that a fatal source writes. -/
theorem Csq.endProc_enterLockout_log (e : Ending) (c : Cause) (hp : s.csq.proc = some p) (l : List Handoff) :
    (Out.andThen ((Csq.endProc e c s).1, l) Csq.enterLockout).1.csq.log =
      appendRecord s.csq.log (s.recordNow p.kind.record e c p.mode p.start) := by
  rw [Csq.endProc_of_some e c hp]
  rfl

theorem Csq.trippedFatal_of_transfer (h : s.csq.state.transferring = true ∨ s.csq.state = .parallel) :
    Csq.trippedFatal x s = (Csq.endProc .failed (.trip x) s).andThen Csq.enterLockout := by
  unfold Csq.trippedFatal
  cases hs : s.csq.state <;> rw [hs] at h <;> first | rfl | exact absurd h (by simp [SeqState.transferring])

theorem Csq.trippedFatal_of_connected (h : s.csq.state = .shore ∨ s.csq.state = .releaseWait) :
    (Csq.trippedFatal x s).1.csq.log =
      appendRecord s.csq.log (s.recordNow .fallback .failed (.trip x) .none (s.csq.shoreEntry.getD 0)) := by
  unfold Csq.trippedFatal
  rcases h with h | h <;> rw [h] <;> rfl

theorem Csq.csqEntered_mem_enter (new : SeqState) (f : Csq → Csq) (s : State) : .csqEntered new ∈
    (Csq.enter new f s).2 := by
  unfold Csq.enter stateChanged
  split <;> simp

theorem Csq.enterIsolating_isolated {o : Out} {l : List Handoff}
    (h : o = ((Csq.enterIsolating true s).1, l ++ (Csq.enterIsolating true s).2)) :
    o.1.csq.state = .isolating ∧ o.1.csq.tripIso = true ∧ .csqEntered .isolating ∈ o.2 := by
  rw [h]
  exact ⟨rfl, rfl, List.mem_append_right _ (Csq.csqEntered_mem_enter _ _ _)⟩

end Notice

/-- R62: what a notice that is not fatal leads to, state by state. -/
theorem notice_of_retryable {x : Source} {s : State} (hx : x.fatal = false) :
    let o := Csq.notice x s
    let logged (kind : RecordKind) (ending : Ending) (mode : Mode) (start : Nat) : Prop :=
      o.1.csq.log = appendRecord s.csq.log (s.recordNow kind ending (.trip x) mode start)
    let isolated := o.1.csq.state = .isolating ∧ o.1.csq.tripIso = true ∧ .csqEntered .isolating ∈ o.2
    (s.csq.state ∈ [SeqState.vacant, .hooked, .isolating, .lockout] → o.1.csq = { s.csq with mask := true }) ∧
      (∀ p, s.csq.proc = some p → p.kind = .transferIn → s.csq.state.transferring = true ∨ s.csq.state = .parallel →
        logged .transferIn .aborted p.mode p.start ∧ o.1.csq.proc = none ∧ (∀ h ∈ withdrawals, h ∈ o.2) ∧
        (o.1.csq.state ≠ .vacant → o.1.csq.retry = min 3 (s.csq.retry + 1)) ∧
        (s.csq.state ≠ .parallel → .slcOrder (.refused (.trip x)) ∈ o.2) ∧
        (isolated ∨
          (o.1.csq.state = .hooked ∨ o.1.csq.state = .vacant) ∧ s.csq.state ≠ .parallel ∧ s.bkd.state = .opened ∧
            s.esd.state = .closed ∧ s.releaseAtOnce = true)) ∧
      (s.csq.state = .shore ∨ s.csq.state = .releaseWait →
        logged .fallback .forced .none (s.csq.shoreEntry.getD 0) ∧ o.1.csq.proc = none ∧ isolated ∧
          .slcOrder .fallback ∈ o.2) ∧
      (∀ p, s.csq.proc = some p → p.kind = .handback → s.csq.state = .handback →
        logged .handback .aborted p.mode p.start ∧ o.1.csq.proc = none ∧ o.1.csq.retry = s.csq.retry ∧ isolated ∧
          .slcOrder .fallback ∈ o.2 ∧ .slcOrder (.refused (.trip x)) ∈ o.2) ∧
      (∀ p, s.csq.proc = some p → p.kind = .handback → s.csq.state = .unloading →
        logged .handback .forced p.mode p.start ∧ o.1.csq.proc = none ∧ isolated ∧ .slcOrder .fallback ∈ o.2) := by
  intro o logged isolated
  refine ⟨fun h => ?idle, fun p hp hk h => ?transfer, fun h => ?connected, fun p hp hk h => ?handback,
    fun p hp hk h => ?unloading⟩
  case idle =>
    have ho : o = _ := Csq.notice_of_idle hx h
    rw [ho]
    rfl
  case transfer =>
    have ho : o = _ := Csq.notice_of_transfer hx h
    have a := Csq.abort_transfer (s := s.masked) (c := .trip x) (trip := true) hp hk
    have hcsq : o.1.csq = (Csq.abort (.trip x) true s.masked).1.csq := by rw [ho]
    have mem {y : Handoff} (hy : y ∈ (Csq.abort (.trip x) true s.masked).2) : y ∈ o.2 := by
      rw [ho]; exact List.mem_cons_of_mem _ hy
    refine ⟨(congrArg Csq.log hcsq).trans a.log, (congrArg Csq.proc hcsq).trans a.proc, fun y hy =>
      mem (a.withdrawn y hy), ?_,
      fun _ => mem a.refused, a.way.imp (fun k => ?_) fun k => ?_⟩
    · rw [hcsq]
      exact a.retry
    · obtain ⟨h1, h2, -, h4⟩ := k
      exact ⟨by rw [hcsq]; exact h1, by rw [hcsq]; exact h2, mem h4⟩
    · obtain ⟨h1, h2, h3, h4, h5, -⟩ := k
      exact ⟨by rw [hcsq]; exact h1, h2, h3, h4, h5⟩
  case connected =>
    have ho : o = _ := Csq.notice_of_connected hx h
    have hi : isolated := Csq.enterIsolating_isolated (l := [.atuSources, .slcOrder .fallback, .atuSources]) ho
    exact ⟨congrArg (·.1.csq.log) ho, congrArg (·.1.csq.proc) ho, hi, by rw [ho]; simp⟩
  case handback =>
    have ho : o = _ := Csq.notice_of_handback hx h hp hk
    have hi : isolated := Csq.enterIsolating_isolated (l :=
      .atuSources :: endedHandoffs .handback .aborted (.trip x)) ho
    exact ⟨congrArg (·.1.csq.log) ho, congrArg (·.1.csq.proc) ho, congrArg (·.1.csq.retry) ho, hi,
      by rw [ho]; simp [endedHandoffs], by rw [ho]; simp [endedHandoffs, answeredRefused]⟩
  case unloading =>
    have ho : o = _ := Csq.notice_of_unloading hx h hp hk
    have hi : isolated := Csq.enterIsolating_isolated (l := .atuSources :: endedHandoffs .handback .forced (.trip x)) ho
    exact ⟨congrArg (·.1.csq.log) ho, congrArg (·.1.csq.proc) ho, hi, by rw [ho]; simp [endedHandoffs]⟩

/-- R63: what a notice of a fatal source leads to, state by state. -/
theorem notice_of_fatal {x : Source} {s : State} (hx : x.fatal = true) :
    let o := Csq.notice x s
    let logged (kind : RecordKind) (ending : Ending) (mode : Mode) (start : Nat) : Prop :=
      o.1.csq.log = appendRecord s.csq.log (s.recordNow kind ending (.trip x) mode start)
    let connected := s.csq.state = .shore ∨ s.csq.state = .releaseWait
    (s.csq.state = .lockout → o.1.csq = { s.csq with mask := true }) ∧
      (s.csq.state ≠ .start → s.csq.state ≠ .lockout →
        o.1.csq.state = .lockout ∧ o.1.csq.proc = none ∧ .csqEntered .lockout ∈ o.2) ∧
      (s.csq.proc = none → s.csq.state ∈ [SeqState.vacant, .hooked, .isolating] → o.1.csq.log = s.csq.log) ∧
      (∀ p, s.csq.proc = some p → p.kind = .transferIn → s.csq.state.transferring = true ∨ s.csq.state = .parallel →
        logged .transferIn .failed p.mode p.start) ∧
      (connected → logged .fallback .failed .none (s.csq.shoreEntry.getD 0)) ∧
      (∀ p, s.csq.proc = some p → p.kind = .handback →
        (s.csq.state = .handback → logged .handback .failed p.mode p.start) ∧
        (s.csq.state = .unloading ∨ s.csq.state = .isolating → logged .handback .forced p.mode p.start)) ∧
      (.slcOrder .fallback ∈ o.2 ↔ connected ∨ s.csq.state = .handback ∨ s.csq.state = .unloading) := by
  intro o logged connected
  have ho : o = Csq.trippedFatal x s := if_pos hx
  refine ⟨fun h => ?lockout, fun h0 h13 => ?entered, fun hp h => ?idle, fun p hp hk h => ?transfer, fun h => ?connected,
    fun p hp hk => ⟨fun h => ?handback, fun h => ?forced⟩, by rw [ho]; exact Csq.trippedFatal_fallback x s⟩
  case lockout =>
    rw [ho, Csq.trippedFatal, h]
    rfl
  case entered =>
    obtain ⟨e, he, -⟩ := Csq.trippedFatal_cases x h0 h13
    rw [ho, he]
    exact ⟨rfl, rfl, List.mem_append_right _ (Csq.csqEntered_mem_enter _ _ _)⟩
  case idle =>
    simp only [List.mem_cons, List.not_mem_nil, or_false] at h
    rw [ho, Csq.trippedFatal]
    rcases h with h | h | h <;> rw [h]
    · rfl
    · rfl
    · simp only [Csq.fail, Csq.endProc, hp]
      rfl
  case transfer =>
    have e := Csq.endProc_enterLockout_log .failed (.trip x) hp (Csq.endProc .failed (.trip x) s).2
    rw [hk] at e
    exact (congrArg (·.1.csq.log) (ho.trans (Csq.trippedFatal_of_transfer h))).trans e
  case connected => exact (congrArg (·.1.csq.log) ho).trans (Csq.trippedFatal_of_connected h)
  case handback =>
    have e := Csq.endProc_enterLockout_log .failed (.trip x) hp (Csq.endProc .failed (.trip x) s).2
    rw [hk] at e
    refine (congrArg (·.1.csq.log) ho).trans (Eq.trans ?_ e)
    rw [Csq.trippedFatal, h]
    rfl
  case forced =>
    have e := Csq.endProc_enterLockout_log .forced (.trip x) hp (Csq.endProc .forced (.trip x) s).2
    rw [hk] at e
    refine (congrArg (·.1.csq.log) ho).trans (Eq.trans ?_ e)
    rw [Csq.trippedFatal]
    rcases h with h | h <;> rw [h] <;> rfl

/-- Settles O33: by the class of the source, and then by the state that its notice finds. -/
theorem tripNoticeEndsTheConnection : Obligations.TripNoticeEndsTheConnection := by
  intro x s o logged isolated connected
  refine ⟨Csq.notice_only x s, fun h => Csq.notice_of_start h, fun h => ?mask, fun hx => notice_of_retryable hx,
    fun hx => notice_of_fatal hx⟩
  case mask =>
    show (Csq.notice x s).1.csq.mask = true
    unfold Csq.notice
    split
    · by_cases h13 : s.csq.state = .lockout
      · simp [Csq.trippedFatal, h13]
      · obtain ⟨e, he, -⟩ := Csq.trippedFatal_cases x h h13
        rw [he]
        rfl
    · exact Csq.tripped_mask h

end Sys2Proof.Machine

namespace Sys2Proof.Machine

/-! ### Acknowledge and lockout clear -/

section Acknowledge

variable {s : State} {scope : List Source}

theorem Source.mem_all (x : Source) : x ∈ Source.all := by cases x <;> decide

/-- R94: the snapshot of an ACK-TRIP names its sources by their bits. -/
theorem mem_sourcesOf (w : BitVec 16) (x : Source) : x ∈ sourcesOf w ↔ w.getLsbD (x.number - 1) = true := by
  simp [sourcesOf, Source.mem_all]

theorem Ptu.acknowledge_of_start (h : s.csq.state = .start) : Ptu.acknowledge scope s = (s, []) := by
  unfold Ptu.acknowledge
  rw [h, beq_self_eq_true, Bool.or_true]
  rfl

/-- R107, R108, R109: what an acknowledge of `scope` leaves of the trip record. -/
theorem Ptu.acknowledge_leaves (hr : s.running = true) (h : s.csq.state ≠ .start) :
    let p := (Ptu.acknowledge scope s).1.ptu
    (∀ x, x ∈ p.latched ↔ x ∈ s.ptu.latched ∧ ¬ (x ∈ scope ∧ s.eligible x = true)) ∧
      (s.ptu.latched ≠ [] → p.latched = [] → p.firstOut = none ∧ p.age = 0) ∧
      (p.latched ≠ [] → p.firstOut = s.ptu.firstOut) := by
  have hb : (s.csq.state == .start) = false := beq_eq_false_iff_ne.mpr h
  have hmem (x : Source) :
      x ∈ s.ptu.latched.filter (fun x => !(scope.contains x && s.eligible x)) ↔
        x ∈ s.ptu.latched ∧ ¬ (x ∈ scope ∧ s.eligible x = true) := by
    rw [List.mem_filter, Bool.not_eq_true', ← Bool.not_eq_true, Bool.and_eq_true, List.contains_iff_mem]
  unfold Ptu.acknowledge
  rw [hr, hb]
  simp only [Bool.not_true, Bool.or_self, Bool.false_eq_true, if_false]
  split
  next hkept => exact ⟨fun x => by rw [← hmem, hkept], fun hne he => absurd he hne, fun _ => rfl⟩
  · split
    next hempty => exact ⟨hmem, fun _ _ => ⟨rfl, rfl⟩, fun hne => absurd (List.isEmpty_iff.mp hempty) hne⟩
    next hempty => exact ⟨hmem, fun _ he => absurd (List.isEmpty_iff.mpr he) hempty, fun _ => rfl⟩

end Acknowledge

/-- R66: the way out of LOCKOUT. -/
theorem Csq.lockoutClear_of_clear {s : State} (h : s.csq.state = .lockout) (hl : s.ptu.latched = []) :
    let new : SeqState :=
      if s.cableAtRest = true then (if s.psm.setState = .complete then .hooked else .vacant) else .isolating
    let o := Csq.lockoutClear s
    o.1.csq.state = new ∧ o.1.csq.mask = s.csq.mask ∧ o.1.csq.tripIso = false ∧ o.2 = stateChanged .lockout new := by
  have e : Csq.lockoutClear s = if s.cableAtRest then Csq.enterRest s else Csq.enterIsolating false s := by
    unfold Csq.lockoutClear
    rw [h, hl]
    rfl
  intro new o
  have ho : o = if s.cableAtRest then Csq.enterRest s else Csq.enterIsolating false s := e
  by_cases hc : s.cableAtRest = true
  · by_cases hp : s.psm.setState = .complete
    · have hn : new = .hooked := (if_pos hc).trans (if_pos hp)
      rw [ho, hn, if_pos hc, Csq.enterRest, if_pos (beq_iff_eq.mpr hp)]
      exact ⟨rfl, rfl, rfl, by rw [← h]; rfl⟩
    · have hn : new = .vacant := (if_pos hc).trans (if_neg hp)
      rw [ho, hn, if_pos hc, Csq.enterRest, if_neg fun k => hp (beq_iff_eq.mp k)]
      exact ⟨rfl, rfl, rfl, by rw [← h]; rfl⟩
  · have hn : new = .isolating := if_neg hc
    rw [ho, hn, if_neg hc]
    exact ⟨rfl, rfl, rfl, by rw [← h]; rfl⟩

theorem Csq.lockoutClear_of_other {s : State} (h : s.csq.state ≠ .lockout ∨ s.ptu.latched ≠ []) :
    Csq.lockoutClear s = (s, []) := by
  refine if_neg fun k => ?_
  rw [Bool.and_eq_true, beq_iff_eq, List.isEmpty_iff] at k
  exact h.elim (absurd k.1) (absurd k.2)

/-- R173: a button still held is reported once, in the state with its mark. -/
def State.reportedHeld (b : Button) (s : State) : State :=
  s.setPnl (s.pnl.setValidator b { s.pnl.validator b with reported := true })

theorem Pnl.held_of_held {b : Button} (report : State → Out) {s : State} (h : (s.pnl.validator b).state = .held)
    (hr : (s.pnl.validator b).reported = false) : Pnl.held b report s = report (s.reportedHeld b) :=
  if_pos (by rw [h, hr]; rfl)

/-- Settles O24: an acknowledge by what it leaves of the record, a lockout clear by its way out. -/
theorem acknowledgeAndLockoutClear : Obligations.AcknowledgeAndLockoutClear := by
  refine ⟨fun s hr => ⟨fun hsettle => ?ack, fun ident d hbus hid hown hlen hnamed => ?frame⟩, fun s hheld hrep =>
    ?clear⟩
  case ack =>
    intro o
    have ho : o = Ptu.acknowledge Source.all (s.pressed .ack) := Pnl.press_of_settling (b := .ack) _ hsettle
    have honly : OnlyPtu (s.pressed .ack) o.1 := by rw [ho]; exact Ptu.acknowledge_only _ _
    have hpnl : o.1.pnl = (s.pressed .ack).pnl := by rw [honly]; rfl
    refine ⟨rfl, by rw [hpnl]; exact honly, by rw [hpnl]; rfl, fun h => ?_, fun h => ?_⟩
    · rw [ho, Ptu.acknowledge_of_start (s := s.pressed .ack) h]
      rfl
    · obtain ⟨hmem, hempty, hkept⟩ := Ptu.acknowledge_leaves (s := s.pressed .ack) (scope := Source.all) hr h
      rw [ho]
      refine ⟨fun x => (hmem x).trans (and_congr_right fun _ => ?_), hempty, hkept⟩
      rw [show (s.pressed .ack).eligible x = s.eligible x by cases x <;> rfl]
      simp [Source.mem_all]
  case frame =>
    intro o snapshot
    have hpassed : reception s.own ident d = .passed .ackTrip 0 :=
      (reception_passed ..).mpr ⟨by simp [BusKind.code, hid], by simp [hid], by omega, by omega, rfl, by rw [hlen]; rfl⟩
    have ho : o = Ptu.acknowledge (sourcesOf snapshot) s.heard := by
      show Tbc.frame ident d s = _
      rw [Tbc.frame_of_passed hbus hpassed]
      exact if_pos hnamed
    have honly : OnlyPtu s.heard o.1 := by rw [ho]; exact Ptu.acknowledge_only _ _
    refine ⟨rfl, honly, fun h => ?_, fun h => ?_⟩
    · rw [ho, Ptu.acknowledge_of_start (s := s.heard) h]
      rfl
    · obtain ⟨hmem, hempty, hkept⟩ := Ptu.acknowledge_leaves (s := s.heard) (scope := sourcesOf snapshot) hr h
      rw [ho]
      refine ⟨fun x => (hmem x).trans (and_congr_right fun _ => ?_), hempty, hkept⟩
      rw [show s.heard.eligible x = s.eligible x by cases x <;> rfl, mem_sourcesOf, not_and_or]
      simp
  case clear =>
    intro o new
    have ho : o = Csq.lockoutClear (s.reportedHeld .ack) := Pnl.held_of_held (b := .ack) _ hheld hrep
    have honly : OnlyCsq (s.reportedHeld .ack) o.1 := by rw [ho]; exact Csq.lockoutClear_only _
    have hpnl : o.1.pnl = (s.reportedHeld .ack).pnl := by rw [honly]; rfl
    refine ⟨rfl, by rw [hpnl]; exact honly, by rw [hpnl]; rfl, fun h hl => ?_, fun h => ?_⟩
    · rw [ho]
      exact Csq.lockoutClear_of_clear (s := s.reportedHeld .ack) h hl
    · rw [ho, Csq.lockoutClear_of_other (s := s.reportedHeld .ack) h]
      exact ⟨rfl, rfl⟩

end Sys2Proof.Machine

namespace Sys2Proof.Machine

/-! ## The start -/

/-- Settles O4: by the values of power-on and reset. -/
theorem powerOnAndResetValues : Obligations.PowerOnAndResetValues := by
  refine fun straps s => ⟨?_, ?_, fun h => ?_⟩
  · refine ⟨(s.powered straps).refresh, rfl, ?_⟩
    repeat' constructor
  · refine ⟨s.resetAsserted.refresh, rfl, ?_⟩
    repeat' constructor
  · have hr : s.released straps = s.setCfl { s.cfl with stage := .loading, berth := straps.toNat } :=
      if_pos (beq_iff_eq.mpr h)
    show Host.Outcome.next (s.released straps).refresh = _
    rw [hr]

/-! ### A load that fails -/

/-- R180: each failing check fails the load. -/
theorem State.loadSucceeds_of_fault {image : List Byte} {s : State}
    (h : image.drop 62 ≠ crcBytes (image.take 62) ∨ s.own = 0 ∨ 16 < s.own ∨
      (Figures.ofImage image).inRange = false ∨ fieldNat image 0 1 ≠ 1 ∨ fieldNat image 14 1 = 0 ∨
      3 < fieldNat image 14 1) : s.loadSucceeds image = false := by
  rw [← Bool.not_eq_true]
  intro k
  simp only [State.loadSucceeds, imageValid, within, Bool.and_eq_true, beq_iff_eq, decide_eq_true_eq] at k
  obtain ⟨⟨⟨⟨⟨-, hcrc⟩, hformat⟩, hmode1, hmode3⟩, hrange⟩, hown1, hown16⟩ := k
  rcases h with h | h | h | h | h | h | h
  · exact h hcrc
  · omega
  · omega
  · exact absurd hrange (by rw [h]; exact Bool.false_ne_true)
  · exact h hformat
  · omega
  · omega

/-- Settles O5: the failed load as R180 leaves it; the output lines of CONFIG-FAULT by their definition. -/
theorem configFaultOnABadLoad : Obligations.ConfigFaultOnABadLoad := by
  constructor
  · intro image s hload hfault
    have he : s.loadEnd image = s.loadFailed := by
      unfold State.loadEnd
      rw [if_pos (beq_iff_eq.mpr hload), State.loadSucceeds_of_fault hfault]
      rfl
    refine ⟨s.loadFailed.1.refresh, ?_, ?_⟩
    · show Out.outcome (s.loadEnd image) = _
      rw [he]
      exact congrArg Host.Outcome.next (Out.conclude_settled s.loadFailed.1 rfl)
    · repeat' constructor
  · intro c s t ht hfault
    have hout : t.out = t.lines := by
      rw [after_eq_of_exec ht]
      exact after_out c s
    have hlamp (p : Pattern) : t.lampLit p = (t.pnl.clock % 2 == 0) := by rw [State.lampLit, hfault]; rfl
    have hwait : t.waitLit = (t.pnl.clock % 2 == 0) := by
      rw [State.waitLit, State.running, hfault]
      exact hlamp _
    have hattention : t.attentionOn = true := by rw [State.attentionOn, hfault]
    rw [hout]
    exact ⟨hattention, hlamp _, (hlamp _).trans (hlamp _).symm, (hlamp _).trans (hlamp _).symm,
      hwait.trans (hlamp _).symm⟩

/-! ### A load that succeeds -/

/-- R81: the breaker state at the end of a load. -/
theorem Bkd.atLoad_state (p : Pins) (b : Bkd) :
    (Bkd.atLoad p b).state = if contactReading p.auxc p.auxo = .opened then .opened else .opening := by
  unfold Bkd.atLoad
  by_cases h : contactReading p.auxc p.auxo = .opened
  · rw [if_pos h, if_pos (beq_iff_eq.mpr h)]
  · rw [if_neg h, if_neg fun k => h (beq_iff_eq.mp k)]

/-- R67: the record of the marked procedure. -/
theorem Csq.atLoad_of_marker {c : Csq} {m : Marker} (h : c.marker = some m) :
    Csq.atLoad true c = Csq.write
      { seq := nextSeq c.seq, kind := m.kind.record, ending := .reset, cause := .none, mode := m.mode
        start := m.start, duration := 0, energy := none, residue := none, peak := 0 } { c with clockMs := 0 } := by
  unfold Csq.atLoad Csq.resetRecord
  simp only [h, if_true]

/-- Settles O6: by the values that a successful load gives. -/
theorem goodLoadStartsTheCensus : Obligations.GoodLoadStartsTheCensus := by
  intro image s hload hok o
  have he : s.loadEnd image = o := by
    unfold State.loadEnd
    rw [if_pos (beq_iff_eq.mpr hload), if_pos hok]
  have hk := Out.conclude_kept o
  have hstate : o.1.csq.state = s.csq.state ∧ o.1.csq.clockMs = 0 := by
    show (Csq.atLoad _ _).state = _ ∧ (Csq.atLoad _ _).clockMs = _
    unfold Csq.atLoad Csq.resetRecord
    simp only
    (repeat' split) <;> exact ⟨rfl, rfl⟩
  refine ⟨congrArg Out.outcome he, hk.cfl, hk.mtp, hk.pins, hstate.2, hstate.1, rfl, rfl, Bkd.atLoad_state s.pins s.bkd,
    fun hsol => ?bus, fun hsol => ?solitary, fun hext m hm => ?record, fun hstop => ?estop⟩
  case bus =>
    have ht : o.1.tbc = Tbc.atLoad false := congrArg Tbc.atLoad hsol
    rw [ht]
    exact ⟨rfl, rfl, rfl⟩
  case solitary =>
    have ht : o.1.tbc = Tbc.atLoad true := congrArg Tbc.atLoad hsol
    rw [ht]
    exact ⟨rfl, rfl, if_pos hsol⟩
  case record =>
    have hc : o.1.csq = Csq.atLoad true s.csq := congrArg (Csq.atLoad · s.csq) hext
    rw [hc, Csq.atLoad_of_marker hm]
    exact ⟨_, rfl, rfl, rfl, rfl, rfl, rfl, rfl, rfl, rfl, rfl, rfl⟩
  case estop =>
    exact List.mem_append_left _ (List.mem_append_left _ (by rw [if_pos hstop]; exact List.mem_singleton_self _))

/-! ### The first working state -/

/-- R182: the four rows, with what each makes the sequencer do. -/
theorem Csq.firstState_cases (s : State) :
    (s.firstWorking = .lockout ∧ Csq.firstState s = Csq.enterLockout s) ∨
    (s.firstWorking = .isolating ∧ Csq.firstState s = ((Csq.enterIsolating false s).1,
      if s.liveAlone = true then .psmAwaitDead :: (Csq.enterIsolating false s).2 else (Csq.enterIsolating false s).2)) ∨
    (s.firstWorking = .hooked ∧ Csq.firstState s = Csq.enter .hooked id s) ∨
    (s.firstWorking = .vacant ∧ Csq.firstState s = Csq.enterVacant s) := by
  unfold State.firstWorking Csq.firstState
  by_cases hfatal : s.ptu.latched.any Source.fatal = true
  · rw [if_pos hfatal, if_pos hfatal]
    exact .inl ⟨rfl, rfl⟩
  rw [if_neg hfatal, if_neg hfatal]
  have hrow : (s.esd.state != .closed || s.bkd.state != .opened || s.psm.live || !s.latchesFree) = true ↔
      s.esd.state ≠ .closed ∨ s.bkd.state ≠ .opened ∨ s.psm.live = true ∨ s.latchesFree = false := by
    simp [or_assoc]
  by_cases hiso : s.esd.state ≠ .closed ∨ s.bkd.state ≠ .opened ∨ s.psm.live = true ∨ s.latchesFree = false
  · rw [if_pos hiso, if_pos (hrow.mpr hiso)]
    refine .inr (.inl ⟨rfl, ?_⟩)
    simp only
    split <;> rfl
  rw [if_neg hiso, if_neg (mt hrow.mp hiso), Csq.enterRest]
  by_cases hset : s.psm.setState = .complete
  · rw [if_pos hset, if_pos (beq_iff_eq.mpr hset)]
    exact .inr (.inr (.inl ⟨rfl, rfl⟩))
  · rw [if_neg hset, if_neg fun k => hset (beq_iff_eq.mp k)]
    exact .inr (.inr (.inr ⟨rfl, rfl⟩))

theorem State.liveAlone_iff (s : State) :
    s.liveAlone = true ↔ s.psm.live = true ∧ s.esd.state = .closed ∧ s.latchesFree = true := by
  simp [State.liveAlone, and_assoc]

/-- R70: a re-test leaves UPSTREAM-TRIP as it is. -/
theorem Bkd.retest_upstream (s : State) : (Bkd.retest s).1.bkd.upstream = s.bkd.upstream := by
  obtain ⟨e, -⟩ | ⟨e, -⟩ := Bkd.retest_cases s
  · rw [e]
  · rw [e, Bkd.take_bkd]
    obtain ⟨e, -⟩ | ⟨e, -⟩ | ⟨e, -⟩ := Bkd.order_cases s.bkd <;> rw [e] <;> rfl

/-- Settles O7: by the four rows of R182. -/
theorem censusTakesTheFirstWorkingState : Obligations.CensusTakesTheFirstWorkingState := by
  intro s hcensus hstart o
  let u : State := (s.setCfl { s.cfl with census := none }).setMtp { s.mtp with armed := true }
  have ho : o = Csq.firstState u := by
    show s.censusEnd = _
    unfold State.censusEnd
    rw [if_pos hcensus]
    exact if_pos (beq_iff_eq.mpr hstart)
  have honly : OnlyCsq u o.1 := by rw [ho]; exact Csq.firstState_only u
  have hk := Out.conclude_kept o
  have hrow : o.1.csq.state = s.firstWorking ∧ (s.firstWorking = .isolating → o.1.csq.isoWatch = some 300000) ∧
      o.2 = if s.firstWorking = .isolating ∧ s.psm.live = true ∧ s.esd.state = .closed ∧ s.latchesFree = true
        then .psmAwaitDead :: stateChanged .start s.firstWorking else stateChanged .start s.firstWorking := by
    have hfrom (new : SeqState) : stateChanged u.csq.state new = stateChanged .start new :=
      congrArg (stateChanged · new) hstart
    have hfree : u.firstWorking = s.firstWorking := rfl
    rw [ho]
    obtain ⟨e, he⟩ | ⟨e, he⟩ | ⟨e, he⟩ | ⟨e, he⟩ := Csq.firstState_cases u <;> rw [hfree] at e <;> rw [he, e]
    · exact ⟨rfl, fun k => absurd k (by decide), by rw [if_neg fun k => absurd k.1 (by decide)]; exact hfrom _⟩
    · refine ⟨rfl, fun _ => rfl, ?_⟩
      rw [show (Csq.enterIsolating false u).2 = stateChanged .start .isolating from hfrom _]
      exact if_congr ((State.liveAlone_iff u).trans (by simp; rfl)) rfl rfl
    · exact ⟨rfl, fun k => absurd k (by decide), by rw [if_neg fun k => absurd k.1 (by decide)]; exact hfrom _⟩
    · exact ⟨rfl, fun k => absurd k (by decide), by rw [if_neg fun k => absurd k.1 (by decide)]; exact hfrom _⟩
  obtain ⟨hstate, hwatch, hhandoffs⟩ := hrow
  refine ⟨rfl, by rw [hk.cfl, honly]; rfl, by rw [hk.mtp, honly]; rfl, hstate, by rw [honly]; rfl, by rw [honly]; rfl,
    by rw [honly]; rfl, by rw [honly]; rfl, hwatch, ⟨_, .refl _, hhandoffs⟩, fun v => ⟨rfl, fun hp hi => ?wait⟩,
    fun v => ?earth, fun v => ?upstream⟩
  case wait =>
    show Psm.releaseRequest v = _
    unfold Psm.releaseRequest
    rw [hp, hi, if_neg (by simp), if_neg Bool.false_ne_true, ← hp]
    rfl
  case earth =>
    show (if (SeqState.start == .start && v.psm.earthContinuity) = true then _ else _) = _
    refine if_congr ?_ rfl rfl
    simp [Psm.earthContinuity]
  case upstream =>
    show (Bkd.retest _).1.bkd.upstream = _
    rw [Bkd.retest_upstream]
    rfl

end Sys2Proof.Machine

namespace Sys2Proof.Machine

/-! ## The plug set, the earthing switch and the metering port -/

/-! ### What the due moves read -/

/-- The single figures that decide whether something besides an own frame's attempt is due. -/
structure SameDue (s t : State) : Prop where
  held : s.setHeld = t.setHeld
  free : s.latchesFree = t.latchesFree
  dead : s.psm.dead1s = t.psm.dead1s
  pending : s.psm.releasePending = t.psm.releasePending
  set : s.psm.setState = t.psm.setState
  switch : s.esd.state = t.esd.state
  dir : s.esd.dir = t.esd.dir
  driving : s.esd.driving = t.esd.driving
  request : s.esd.request = t.esd.request
  breaker : s.bkd.state = t.bkd.state
  hold : s.bkd.hold = t.bkd.hold
  state : s.csq.state = t.csq.state
  proven : s.spv.proven = t.spv.proven
  floor : s.clu.kf = t.clu.kf

theorem SameDue.otherwiseCalm {s t : State} (h : SameDue s t) : s.otherwiseCalm = t.otherwiseCalm := by
  have hc : s.closeInterlock = t.closeInterlock := by simp only [State.closeInterlock, h.breaker, h.hold, h.dead]
  have ht : s.travelInterlock = t.travelInterlock := by simp only [State.travelInterlock, h.dir, h.held, hc]
  have hr : s.releaseInterlock = t.releaseInterlock := by simp only [State.releaseInterlock, h.switch, h.hold, h.dead]
  have hrest : s.cableAtRest = t.cableAtRest := by simp only [State.cableAtRest, h.switch, h.breaker, h.free]
  have e1 : (Esd.due s).isNone = (Esd.due t).isNone := by
    unfold Esd.due
    simp only [h.switch, h.dir, h.driving, h.request, h.held, hc, ht]
    (repeat' split) <;> rfl
  have e2 : (Psm.due s).isNone = (Psm.due t).isNone := by
    unfold Psm.due
    rw [h.pending, hr, isNone_ite, isNone_ite]
  have e3 : (Esd.ownRequest s).isNone = (Esd.ownRequest t).isNone := by
    unfold Esd.ownRequest
    rw [h.state, h.switch, h.request, isNone_ite, isNone_ite]
  have e4 : (Csq.due s).isNone = (Csq.due t).isNone := by
    unfold Csq.due
    rw [h.state, h.set, hrest, h.proven, h.switch, h.floor]
    split <;> first | rfl | rw [isNone_ite, isNone_ite]
  simp only [State.otherwiseCalm, e1, e2, e3, e4]

theorem SameDue.settled {s t : State} (h : SameDue s t) (ha : s.tbc.attemptDue = t.tbc.attemptDue)
    (hr : s.running = t.running) (hs : s.settled = true) : t.settled = true := by
  unfold State.settled at *
  rw [← hr, State.calm_eq, ← h.otherwiseCalm, ← ha, ← State.calm_eq]
  exact hs

/-! ### Pilots -/

section Pilots

variable {s : State} {i : PlugNo}

theorem Four.get_set_other {α : Type} (f : Four α) {i j : PlugNo} (a : α) (h : j ≠ i) : (f.set i a).get j = f.get j :=
    by
  cases i <;> cases j <;> first | rfl | exact absurd rfl h

/-- New pilot states make nothing due while no latch and no set state changes with them. -/
theorem State.settled_setPlugs {plugs : Four Plug} (h : ∀ j, (plugs.get j).confirmed = (s.psm.plugs.get j).confirmed ∧
    (plugs.get j).engaged = (s.psm.plugs.get j).engaged) (hs : s.settled = true) :
    (s.setPsm { s.psm with plugs := plugs }).settled = true := by
  have hall (g : Plug → Bool) (hg : ∀ j, g (s.psm.plugs.get j) = g (plugs.get j)) :
      s.psm.plugs.allIn s.figs.np g = plugs.allIn s.figs.np g := by
    rw [Bool.eq_iff_iff, Four.allIn_iff, Four.allIn_iff]
    exact forall_congr' fun j => by rw [hg j]
  refine SameDue.settled (s := s) ?_ rfl rfl hs
  constructor <;> first | rfl | skip
  · exact congrArg (s.psm.setState == .complete && ·) (hall _ fun j => (h j).1.symm)
  · exact hall _ fun j => by rw [(h j).2]

/-- R1: a pilot found made in OPEN is validated. -/
theorem Psm.pilotMade_of_opened (hr : s.running = true) (hi : inPlugSet s.figs.np i = true)
    (h : (s.psm.plugs.get i).pilot = .opened) :
    Psm.pilotMade i s = ((s.setPins { s.pins with pilot := s.pins.pilot.set i true }).setPsm
      { s.psm with plugs := s.psm.plugs.set i { s.psm.plugs.get i with pilot := .validating, validation := some 2000 } },
      []) := by
  simp [Psm.pilotMade, State.setPins_figs, hr, hi, h]

theorem Psm.pilotMade_of_other (h : (s.psm.plugs.get i).pilot ≠ .opened) :
    Psm.pilotMade i s = (s.setPins { s.pins with pilot := s.pins.pilot.set i true }, []) := by
  simp [Psm.pilotMade, h]

/-- R1: what the monitor's plugs are once a pilot has opened. -/
def Psm.opening (i : PlugNo) (p : Psm) : Psm :=
  { p with plugs := p.plugs.set i { p.plugs.get i with pilot := .opened, validation := none } }

theorem Psm.pilotOpened_eq (hr : s.running = true) (hi : inPlugSet s.figs.np i = true) :
    let t := s.setPins { s.pins with pilot := s.pins.pilot.set i false }
    Psm.pilotOpened i s =
      match (s.psm.plugs.get i).pilot with
      | .opened => (t, [])
      | .validating => Psm.take (s.psm.opening i) [] t
      | .made => Psm.loss (s.psm.opening i) t := by
  exact if_pos (Bool.and_eq_true_iff.mpr ⟨hr, hi⟩)

end Pilots

/-- Settles O9: by the pilot's state when it opens. -/
theorem pilotsAreValidated : Obligations.PilotsAreValidated := by
  intro i s hr hi q p o
  have hlatch (q' : Plug) (hc : q'.confirmed = q.confirmed) (he : q'.engaged = q.engaged) (j : PlugNo) :
      ((s.psm.plugs.set i q').get j).confirmed = (s.psm.plugs.get j).confirmed ∧
        ((s.psm.plugs.set i q').get j).engaged = (s.psm.plugs.get j).engaged := by
    by_cases hj : j = i
    · rw [hj, Four.get_set_self]
      exact ⟨hc, he⟩
    · rw [Four.get_set_other _ _ hj]
      exact ⟨rfl, rfl⟩
  refine ⟨fun hq hs => ?made, fun hq hs => ?again, rfl, ?rest⟩
  case made =>
    show Out.outcome (Psm.pilotMade i s) = _
    rw [Psm.pilotMade_of_opened hr hi hq]
    exact congrArg _ (Out.conclude_settled _ (State.settled_setPlugs (s := p)
      (hlatch { q with pilot := .validating, validation := some 2000 } rfl rfl) (State.settled_setPins _ hs)))
  case again =>
    show Out.outcome (Psm.pilotMade i s) = _
    rw [Psm.pilotMade_of_other hq]
    exact congrArg _ (Out.conclude_settled _ (State.settled_setPins _ hs))
  case rest =>
    let t := s.setPins { s.pins with pilot := s.pins.pilot.set i false }
    have ho : o = _ := Psm.pilotOpened_eq hr hi
    have hplugs (j : PlugNo) (hj : j ≠ i) : ((s.psm.opening i).plugs.get j) = s.psm.plugs.get j :=
      Four.get_set_other _ _ hj
    have hself : (s.psm.opening i).plugs.get i = { q with pilot := .opened, validation := none } :=
      Four.get_set_self _ _ _
    cases hq : (s.psm.plugs.get i).pilot with
    | opened =>
      rw [hq] at ho
      rw [ho]
      exact ⟨rfl, rfl, fun _ _ => rfl, fun _ => ⟨rfl, rfl⟩, fun k => absurd rfl k, fun k => absurd k (by decide),
        fun k => absurd k (by decide), fun k => absurd k (by decide)⟩
    | validating =>
      rw [hq] at ho
      rw [ho]
      refine ⟨(Psm.take_only ..).eq_setPins_setPsm, rfl, hplugs, fun k => absurd k (by decide),
        fun _ => ?_, fun _ => ?_, fun k => absurd k (by decide),
        fun k => absurd k (by decide)⟩
      · show ((s.psm.opening i).plugs.get i).pilot = .opened ∧ ((s.psm.opening i).plugs.get i).validation = none
        rw [hself]
        exact ⟨rfl, rfl⟩
      · rw [Psm.csqPlugDisturbed_mem_take]
        exact List.not_mem_nil
    | made =>
      rw [hq] at ho
      rw [ho]
      refine ⟨(Psm.loss_only _ _).eq_setPins_setPsm, ?_, fun j hj => ?_, fun k => absurd k (by decide),
        fun _ => ?_, fun k => absurd k (by decide), fun _ hl hw => Psm.loss_live_latches _ t hl hl hw,
        fun _ hl => Psm.loss_dead_reports _ t hl hl⟩
      · show (Psm.loss _ t).1.pins = _
        rw [show (Psm.loss _ t).1 = _ from Psm.loss_only _ t]
        rfl
      · show (Psm.loss _ t).1.psm.plugs.get j = _
        rw [Psm.loss_plugs, hplugs j hj]
      · show ((Psm.loss _ t).1.psm.plugs.get i).pilot = _ ∧ ((Psm.loss _ t).1.psm.plugs.get i).validation = _
        rw [Psm.loss_plugs, hself]
        exact ⟨rfl, rfl⟩

end Sys2Proof.Machine

namespace Sys2Proof.Machine

/-! ### The earthing switch -/

section EarthingSwitch

variable {s : State} {posc poso : Bool}

/-- The state in which a change of the position contacts is judged. -/
def State.positioned (posc poso : Bool) (s : State) : State := s.setPins { s.pins with posc := posc, poso := poso }

/-- R15: entry to FAULT, with what it leaves. -/
theorem Esd.enterFault_leaves (s : State) :
    let o := Esd.enterFault s
    o.1.esd.state = .fault ∧ o.1.esd.driving = false ∧ o.1.esd.travel = none ∧ o.1.esd.request = .none ∧
      (o.1.esd.settle = if s.pins.posc = s.pins.poso then none else some 1000) ∧
      .ptuCondition .earthingSwitch ∈ o.2 := by
  refine ⟨rfl, rfl, rfl, rfl, ?_, by simp [Esd.enterFault]⟩
  show (if (eswReading s.pins.posc s.pins.poso).atEnd then some 1000 else none) = _
  cases s.pins.posc <;> cases s.pins.poso <;> rfl

/-- R11, R16: what a running part does with a reading in a state of the switch. -/
def Esd.judge (state : EswState) (reading : EswReading) (t : State) : Out :=
  match state, reading with
  | .fault, .closed | .fault, .opened => (t.setEsd { t.esd with settle := some 1000 }, [])
  | .fault, .between | .fault, .invalid => (t.setEsd { t.esd with settle := none }, [])
  | _, .invalid => Esd.enterFault t
  | .opened, .opened | .closed, .closed => (t, [])
  | .opened, _ | .closed, _ => Esd.enterFault t
  | .moving, .between => (t, [])
  | .moving, .closed => if t.esd.dir == .toOpen then (t, []) else Esd.take (t.esd.rest .closed) t
  | .moving, .opened => if t.esd.dir == .toClosed then (t, []) else Esd.take (t.esd.rest .opened) t

theorem Esd.positions_eq (hr : s.running = true) :
    Esd.positions posc poso s = Esd.judge s.esd.state (eswReading posc poso) (s.positioned posc poso) :=
  if_neg (show ¬ (!s.running) = true by rw [hr]; exact Bool.false_ne_true)

/-- R11: the readings that are FAULT. -/
theorem Esd.positions_of_bad (hr : s.running = true)
    (h : (posc = true ∧ poso = true ∧ s.esd.state ≠ .fault) ∨ (s.esd.state = .opened ∧ (posc = true ∨ poso = false)) ∨
      (s.esd.state = .closed ∧ (posc = false ∨ poso = true))) :
    Esd.positions posc poso s = Esd.enterFault (s.positioned posc poso) := by
  rw [Esd.positions_eq hr]
  rcases h with ⟨rfl, rfl, hs⟩ | ⟨hs, h⟩ | ⟨hs, h⟩
  · cases he : s.esd.state <;> first | rfl | exact absurd he hs
  · rw [hs]
    cases posc <;> cases poso <;> first | rfl | exact absurd h (by decide)
  · rw [hs]
    cases posc <;> cases poso <;> first | rfl | exact absurd h (by decide)

/-- R16: in FAULT a reading starts the count of 1 s afresh or cancels it. -/
theorem Esd.positions_of_fault (hr : s.running = true) (hs : s.esd.state = .fault) :
    Esd.positions posc poso s = ((s.positioned posc poso).setEsd
      { s.esd with settle := if posc = poso then none else some 1000 }, []) := by
  rw [Esd.positions_eq hr, hs]
  cases posc <;> cases poso <;> rfl

/-- R11: a travel that is not for CLOSED ends at the open position. -/
theorem Esd.positions_of_opened (hr : s.running = true) (hs : s.esd.state = .moving) (hd : s.esd.dir ≠ .toClosed) :
    Esd.positions false true s =
      ((s.positioned false true).setEsd (s.esd.rest .opened), [.bkdRetest, .csqSwitch]) := by
  rw [Esd.positions_eq hr, hs]
  refine (if_neg fun k => hd (beq_iff_eq.mp k)).trans (congrArg (Prod.mk _) (if_pos ?_))
  rw [show (s.positioned false true).esd.state = .moving from hs]
  rfl

/-- R11: a travel that is not for OPEN ends at the closed position. -/
theorem Esd.positions_of_closed (hr : s.running = true) (hs : s.esd.state = .moving) (hd : s.esd.dir ≠ .toOpen) :
    Esd.positions true false s =
      ((s.positioned true false).setEsd (s.esd.rest .closed), [.bkdRetest, .csqSwitch]) := by
  rw [Esd.positions_eq hr, hs]
  refine (if_neg fun k => hd (beq_iff_eq.mp k)).trans (congrArg (Prod.mk _) (if_pos ?_))
  rw [show (s.positioned true false).esd.state = .moving from hs]
  rfl

/-- R16: a position held to the end of the count ends FAULT there. -/
theorem Esd.settled_of_end (hs : s.esd.state = .fault) (ht : s.esd.settle.isSome = true)
    (hp : s.pins.posc ≠ s.pins.poso) :
    Esd.settled s = (s.setEsd (s.esd.rest (if s.pins.posc = true then .closed else .opened)), [.bkdRetest,
      .csqSwitch]) := by
  unfold Esd.settled
  rw [if_pos ht, State.eswRead]
  cases hc : s.pins.posc <;> cases ho : s.pins.poso <;> rw [hc, ho] at hp <;>
    first
    | exact absurd rfl hp
    | exact congrArg (Prod.mk _) (if_pos (by rw [hs]; rfl))

end EarthingSwitch

/-- Settles O12: by the reading and the state of the switch. -/
theorem earthingSwitchMovesAndFails : Obligations.EarthingSwitchMovesAndFails := by
  refine fun s hr => ⟨fun hm hd => ?opened, fun hm hd => ?closed, fun posc poso h => ?bad, fun hs hf posc poso =>
    ?fault,
    fun ht => ?travel, fun hf ht hp => ?settle⟩
  case opened =>
    intro o
    have ho : o = _ := Esd.positions_of_opened hr hm hd
    rw [ho]
    exact ⟨congrArg Out.outcome ho, rfl, rfl, rfl, rfl, rfl⟩
  case closed =>
    intro o
    have ho : o = _ := Esd.positions_of_closed hr hm hd
    rw [ho]
    exact ⟨congrArg Out.outcome ho, rfl, rfl, rfl, rfl, rfl⟩
  case bad =>
    intro o
    have ho : o = _ := Esd.positions_of_bad hr h
    rw [ho]
    exact ⟨congrArg Out.outcome ho, rfl, Esd.enterFault_leaves (s.positioned posc poso)⟩
  case fault =>
    show Out.outcome (Esd.positions posc poso s) = _
    rw [Esd.positions_of_fault hr hf]
    refine congrArg Host.Outcome.next (Out.conclude_settled _ (SameDue.settled (s := s) ?_ rfl rfl hs))
    constructor <;> rfl
  case travel =>
    intro o
    have ho : o = Esd.enterFault s := if_pos ht
    obtain ⟨hstate, hdriving, htravel, hrequest, -, hmem⟩ := Esd.enterFault_leaves s
    rw [ho]
    exact ⟨congrArg Out.outcome ho, rfl, hstate, hdriving, htravel, hrequest, hmem⟩
  case settle =>
    intro o
    have ho : o = _ := Esd.settled_of_end hf ht hp
    rw [ho]
    refine ⟨congrArg Out.outcome ho, rfl, rfl, rfl, rfl, ?_, rfl⟩
    show ((if s.pins.posc = true then EswState.closed else .opened) == .fault) = false
    split <;> rfl

end Sys2Proof.Machine

namespace Sys2Proof.Machine

/-! ### Deliveries and check events -/

/-- R183: the bits of a byte, the most significant first, spell its number. -/
theorem bitsOfByte_foldl (b : Byte) : (bitsOfByte b).foldl (fun n b => 2 * n + b.toNat) 0 = b.toNat := by
  have hb := b.isLt
  simp only [bitsOfByte, List.map, List.foldl, BitVec.getLsbD, Nat.toNat_testBit]
  omega

theorem bytesOfBits_bitsOfByte (b : Byte) (rest : List Bool) :
    bytesOfBits (bitsOfByte b ++ rest) = b :: bytesOfBits rest := by
  have hb : BitVec.ofNat 8 ((bitsOfByte b).foldl (fun n b => 2 * n + b.toNat) 0) = b := by
    rw [bitsOfByte_foldl]
    exact BitVec.eq_of_toNat_eq (by rw [BitVec.toNat_ofNat]; exact Nat.mod_eq_of_lt b.isLt)
  rw [bitsOfByte, List.map] at hb
  simp only [bitsOfByte, List.map, List.cons_append, List.nil_append]
  rw [bytesOfBits, ← List.map]
  exact congrArg (· :: bytesOfBits rest) hb

theorem bytesOfBits_flatMap (d : List Byte) : bytesOfBits (d.flatMap bitsOfByte) = d := by
  induction d with
  | nil => rfl
  | cons b rest ih => rw [List.flatMap_cons, bytesOfBits_bitsOfByte, ih]

section Delivery

variable {s : State} {bits : List Bool}

theorem Mtp.discards_iff (m : Mtp) (bits : List Bool) :
    m.discards bits = true ↔ bits.length ≠ 288 ∨ converterFault (bytesOfBits bits) = true ∨
      m.last.any (fun r => r.serial == fieldNat (bytesOfBits bits) 35 1) = true := by
  simp only [Mtp.discards, Bool.or_eq_true, bne_iff_ne, or_assoc]

theorem Mtp.deliver_of_discarded (hr : s.running = true) (h : s.mtp.discards bits = true) :
    Mtp.deliver bits s = s.setMtp s.mtp.discard := by
  unfold Mtp.deliver
  rw [hr, if_neg (by simp), if_pos h]

/-- R18: a discarded delivery touches the recovery count alone. -/
theorem Mtp.discard_eq (m : Mtp) : m.discard = { m with recovery := if m.lost then 0 else m.recovery } := by
  unfold Mtp.discard
  split <;> rfl

/-- R21: what the consumers of an accepted set do leaves the metering port as it accepted the set. -/
theorem Mtp.deliver_of_accepted (hr : s.running = true) (h : s.mtp.discards bits = false) :
    (Mtp.deliver bits s).mtp = s.mtp.accept (readingSetOf (bytesOfBits bits)) := by
  unfold Mtp.deliver
  rw [hr, h, if_neg (by simp), if_neg Bool.false_ne_true]
  exact (inTurn_within (setConsumers_within _ _ _) _).mtp rfl

/-- R21, R24, R25: what an accepted set leaves of the metering port. -/
theorem Mtp.accept_leaves (r : ReadingSet) (m : Mtp) :
    let t := m.accept r
    t.last = some r ∧ t.latch = true ∧ t.armed = true ∧ t.check = m.check ∧
      (m.lost = false → t.lost = false ∧ t.miss = m.miss) ∧
      (m.lost = true → m.recovery + 1 < 50 → t.lost = true ∧ t.recovery = m.recovery + 1) ∧
      (m.lost = true → 50 ≤ m.recovery + 1 → t.lost = false ∧ t.recovery = 0 ∧ t.miss = 0) := by
  by_cases hl : m.lost = true
  · by_cases hn : m.recovery + 1 ≥ 50
    · have e : m.accept r = { m with
          last := some r, latch := true, armed := true, lost := false, recovery := 0, miss := 0 } :=
        (if_pos hl).trans (if_pos hn)
      rw [e]
      exact ⟨rfl, rfl, rfl, rfl, fun k => absurd (hl.symm.trans k) Bool.true_eq_false_eq_False,
        fun _ k => absurd hn (by omega), fun _ _ => ⟨rfl, rfl, rfl⟩⟩
    · have e : m.accept r = { m with last := some r, latch := true, armed := true, recovery := m.recovery + 1 } :=
        (if_pos hl).trans (if_neg hn)
      rw [e]
      exact ⟨rfl, rfl, rfl, rfl, fun k => absurd (hl.symm.trans k) Bool.true_eq_false_eq_False, fun _ _ => ⟨hl, rfl⟩,
        fun _ k => absurd k hn⟩
  · have e : m.accept r = { m with last := some r, latch := true, armed := true } := if_neg hl
    rw [e]
    exact ⟨rfl, rfl, rfl, rfl, fun k => ⟨k, rfl⟩, fun k => absurd k hl, fun k => absurd k hl⟩

end Delivery

/-- Settles O14: by the tests of R18 and R19. -/
theorem deliveryAcceptedOrDiscarded : Obligations.DeliveryAcceptedOrDiscarded := by
  refine ⟨fun bits s hr => ⟨fun hs h => ?discarded, fun hlen hfault hserial => ?accepted⟩, bytesOfBits_flatMap⟩
  case discarded =>
    show Out.outcome (Mtp.deliver bits s, []) = _
    rw [Mtp.deliver_of_discarded hr ((Mtp.discards_iff ..).mpr h), Mtp.discard_eq]
    exact congrArg Host.Outcome.next (Out.conclude_settled _ (settled_congr (s := s) rfl rfl rfl hs))
  case accepted =>
    have hkept : s.mtp.discards bits = false := by
      rw [← Bool.not_eq_true, Mtp.discards_iff, hfault, hserial]
      simp [hlen]
    refine ⟨Out.conclude (Mtp.deliver bits s, []), rfl, ?_⟩
    rw [(Out.conclude_kept (Mtp.deliver bits s, [])).mtp, Mtp.deliver_of_accepted hr hkept]
    exact Mtp.accept_leaves _ s.mtp

/-! ### The loss of the metering -/

section Loss

variable {s : State}

/-- R24, R32, R90: what stays once METERING-LOST has reached its consumers. -/
structure State.Unmetered (s : State) : Prop where
  latched : .meteringLost ∈ s.ptu.latched
  proven : s.spv.proven = false
  stability : s.spv.stability = 0
  permit : s.syc.permit = false
  confirm : s.syc.confirm = false

/-- Only a reading set proves a supply. -/
theorem handle_unproven (x : Handoff) (h : s.spv.proven = false ∧ s.spv.stability = 0) :
    (handle x s).1.spv.proven = false ∧ (handle x s).1.spv.stability = 0 := by
  by_cases hx : x.reach.contains .spv = false
  · rw [(handle_within x s).spv hx]
    exact h
  cases x with
  | spvSeq new =>
    show (Spv.onSeq new s).1.spv.proven = false ∧ (Spv.onSeq new s).1.spv.stability = 0
    unfold Spv.onSeq
    split
    · exact ⟨rfl, rfl⟩
    · exact h
  | _ => exact absurd rfl hx

/-- Only a reading set gives a close permission or confirms a dead bus. -/
theorem handle_unpermitted (x : Handoff) (h : s.syc.permit = false ∧ s.syc.confirm = false) :
    (handle x s).1.syc.permit = false ∧ (handle x s).1.syc.confirm = false := by
  by_cases hx : x.reach.contains .syc = false
  · rw [(handle_within x s).syc hx]
    exact h
  cases x with
  | sycSeq new => exact ⟨rfl, rfl⟩
  | sycReady =>
    show (Syc.onReady s).1.syc.permit = false ∧ (Syc.onReady s).1.syc.confirm = false
    unfold Syc.onReady
    split <;> exact h
  | _ => exact absurd rfl hx

theorem handle_unmetered (x : Handoff) (s : State) (h : s.Unmetered) : (handle x s).1.Unmetered := by
  obtain ⟨hp, hst⟩ := handle_unproven x ⟨h.proven, h.stability⟩
  obtain ⟨hpe, hc⟩ := handle_unpermitted x ⟨h.permit, h.confirm⟩
  exact ⟨handle_latched_subset x s h.latched, hp, hst, hpe, hc⟩

theorem Out.conclude_unmetered {o : Out} (h : o.1.Unmetered) : o.conclude.Unmetered := by
  refine Out.conclude_keeps State.Unmetered handle_unmetered (fun t u hd k => ?_)
    (fun t k => ⟨k.latched, k.proven, k.stability, k.permit, k.confirm⟩) o h
  have hw := due_within hd
  exact ⟨due_latched_subset hd k.latched, by rw [hw.spv rfl]; exact k.proven, by rw [hw.spv rfl]; exact k.stability,
    by rw [hw.syc rfl]; exact k.permit, by rw [hw.syc rfl]; exact k.confirm⟩

theorem Out.run_latched {x : Source} {o : Out} (h : x ∈ o.1.ptu.latched) : x ∈ o.run.ptu.latched :=
  Out.run_keeps (fun t => x ∈ t.ptu.latched) (fun y t hy => handle_latched_subset y t hy) o h

theorem Ptu.meteringOnset_latches (s : State) : .meteringLost ∈ (Ptu.meteringOnset s).run.ptu.latched := by
  rw [Ptu.meteringOnset, Out.run_cons]
  exact drain_keeps (fun t => .meteringLost ∈ t.ptu.latched) (fun y t hy => handle_latched_subset y t hy) _ _ _
    (Ptu.onset_self_mem .meteringLost _)

theorem Spv.meteringOnset_unproven (s : State) :
    (Spv.meteringOnset s).run.spv.proven = false ∧ (Spv.meteringOnset s).run.spv.stability = 0 :=
  Out.run_keeps (fun t => t.spv.proven = false ∧ t.spv.stability = 0) (fun x _ => handle_unproven x) _ ⟨rfl, rfl⟩

theorem Syc.meteringOnset_unmetered {s : State} (hl : .meteringLost ∈ s.ptu.latched) (hp : s.spv.proven = false)
    (hs : s.spv.stability = 0) : (Syc.meteringOnset s).run.Unmetered :=
  Out.run_keeps State.Unmetered handle_unmetered _ ⟨hl, hp, hs, rfl, rfl⟩

/-- R24: after its consumers have heard of it, METERING-LOST is latched and nothing is proven or permitted. -/
theorem lossConsumers_unmetered (s : State) : (inTurn lossConsumers s).Unmetered := by
  have hpsm {a : State} (h : .meteringLost ∈ a.ptu.latched) : .meteringLost ∈ (Psm.meteringOnset a).run.ptu.latched :=
    Out.run_latched h
  have hspv {a : State} (h : .meteringLost ∈ a.ptu.latched) : (Syc.meteringOnset (Spv.meteringOnset a).run).run.Unmetered :=
    have hl : .meteringLost ∈ (Spv.meteringOnset a).run.ptu.latched := Out.run_latched h
    Syc.meteringOnset_unmetered hl (Spv.meteringOnset_unproven a).1 (Spv.meteringOnset_unproven a).2
  have e : inTurn lossConsumers s =
      (Syc.meteringOnset (Spv.meteringOnset (Psm.meteringOnset (Ptu.meteringOnset s).run).run).run).run := by
    simp only [inTurn, lossConsumers, List.foldl]
  rw [e]
  exact hspv (hpsm (Ptu.meteringOnset_latches s))

/-- R22, R24: a check event that changes no more than the port. -/
theorem Mtp.checkEvent_of_quiet (hc : s.mtp.check.isSome = true) (h : (s.mtp.checked.lost && !s.mtp.lost) = false) :
    Mtp.checkEvent s = s.setMtp s.mtp.checked := by
  unfold Mtp.checkEvent
  rw [if_neg (by rw [Option.isNone_iff_eq_none]; exact fun k => by simp [k] at hc)]
  exact if_neg (by rw [h]; exact Bool.false_ne_true)

/-- R24: the second silent check in a row is offered to its consumers. -/
theorem Mtp.checkEvent_of_lost (hc : s.mtp.check.isSome = true) (h : (s.mtp.checked.lost && !s.mtp.lost) = true) :
    Mtp.checkEvent s = inTurn lossConsumers (s.setMtp s.mtp.checked) := by
  unfold Mtp.checkEvent
  rw [if_neg (by rw [Option.isNone_iff_eq_none]; exact fun k => by simp [k] at hc)]
  exact if_pos h

theorem exec_checkEvent_of_quiet {m : Mtp} (hs : s.settled = true) (hc : s.mtp.check.isSome = true)
    (hm : s.mtp.checked = m) (h : (m.lost && !s.mtp.lost) = false) :
    exec .checkEvent s = .next (s.setMtp m).refresh := by
  show Out.outcome (Mtp.checkEvent s, []) = _
  rw [Mtp.checkEvent_of_quiet hc (by rw [hm]; exact h), hm]
  exact congrArg Host.Outcome.next (Out.conclude_settled _ (settled_congr (s := s) rfl rfl rfl hs))

end Loss

/-- Settles O15: by the state of the presence monitor. -/
theorem twoSilentChecksLoseMetering : Obligations.TwoSilentChecksLoseMetering := by
  refine fun s hc => ⟨fun hs ha => ?unarmed, fun hs ha hl => ?heard, fun hs ha hl hlost hmiss => ?first,
    fun hs ha hl hlost => ?further, fun ha hl hlost hmiss => ?second⟩
  case unarmed =>
    refine exec_checkEvent_of_quiet hs hc ?_ (by simp)
    simp [Mtp.checked, ha]
  case heard =>
    refine exec_checkEvent_of_quiet hs hc ?_ (by simp)
    simp [Mtp.checked, ha, hl]
  case first =>
    refine exec_checkEvent_of_quiet hs hc ?_ (by simp)
    simp [Mtp.checked, ha, hl, hlost, hmiss]
  case further =>
    refine exec_checkEvent_of_quiet hs hc ?_ (by simp)
    simp [Mtp.checked, ha, hl, hlost]
  case second =>
    have hm : s.mtp.checked = { s.mtp with check := some 25, miss := 2, lost := true, recovery := 0 } := by
      simp [Mtp.checked, ha, hl, hlost, hmiss]
    have he : Mtp.checkEvent s = inTurn lossConsumers (s.setMtp s.mtp.checked) :=
      Mtp.checkEvent_of_lost hc (by rw [hm, hlost]; rfl)
    have hmtp : (Mtp.checkEvent s).mtp = s.mtp.checked := by
      rw [he]
      exact (inTurn_within lossConsumers_within _).mtp rfl
    have hun : (Mtp.checkEvent s).Unmetered := by
      rw [he]
      exact lossConsumers_unmetered _
    obtain ⟨hlatched, hp, hst, hpe, hco⟩ := Out.conclude_unmetered (o := (Mtp.checkEvent s, [])) hun
    refine ⟨Out.conclude (Mtp.checkEvent s, []), rfl, ?_⟩
    rw [(Out.conclude_kept (Mtp.checkEvent s, [])).mtp, hmtp, hm]
    exact ⟨rfl, rfl, rfl, hlatched, hp, hst, hpe, hco⟩

end Sys2Proof.Machine

namespace Sys2Proof.Machine

/-! ## The sequencer's timers and the panel -/

/-! ### Timers -/

section Timers

variable {s : State}

/-- One hand-off that is answered with none leads to what its block made of the state. -/
theorem Out.conclude_of_answered {x : Handoff} {t : State} (h : handle x s = (t, [])) :
    Out.conclude (s, [x]) = Out.conclude (t, []) := by
  have hrun : Out.run (s, [x]) = Out.run (t, []) := by
    rw [Out.run_cons, h]
    rfl
  rw [Out.conclude, hrun]
  rfl

/-- R51: what an isolation by the sequencer leaves. -/
theorem Csq.isolateWith_leaves (e : Ending) (c : Cause) (s : State) :
    let o := Csq.isolateWith e c s
    o.1.csq.state = .isolating ∧ o.1.csq.releaseDelay = none ∧ .bkdOpen ∈ o.2 ∧ o.1.csq.isoWatch = some 300000 ∧
      o.1.csq.log = s.csq.log ∧ o.1.csq.marker = s.csq.marker ∧
      o.1.csq.proc = s.csq.proc.map fun p => { p with fixed := some (e, c) } :=
  ⟨rfl, rfl, List.mem_cons_self .., rfl, rfl, rfl, rfl⟩

/-- R51: the state in which an expired release delay is dealt with. -/
def State.undelayed (s : State) : State := s.setCsq { s.csq with releaseDelay := none }

theorem Csq.releaseExpired_of_connected (hd : s.csq.releaseDelay.isSome = true)
    (h : s.csq.state = .releaseWait ∨ s.csq.state = .handback ∨ s.csq.state = .unloading) :
    Csq.releaseExpired s = Csq.isolateWith .forced .releaseExpired s.undelayed := by
  rcases h with h | h | h <;> simp [Csq.releaseExpired, h, State.undelayed, Option.isSome_iff_ne_none.mp hd]

theorem Csq.releaseExpired_of_shore (hd : s.csq.releaseDelay.isSome = true) (h : s.csq.state = .shore)
    (hp : s.csq.proc = none) :
    Csq.releaseExpired s =
      (Csq.openProc .handback .none none s.undelayed).andThen (Csq.isolateWith .forced .releaseExpired) := by
  simp [Csq.releaseExpired, h, hp, State.undelayed, Option.isSome_iff_ne_none.mp hd]

theorem Csq.releaseExpired_csq (hd : s.csq.releaseDelay.isSome = true) :
    (Csq.releaseExpired s).1.csq.releaseDelay = none := by
  unfold Csq.releaseExpired
  rw [if_neg (by simpa [Option.isSome_iff_ne_none] using hd)]
  simp only
  (repeat' split) <;> rfl

/-- R155: what a release leaves of the claim. -/
theorem Clu.release_leaves (s : State) :
    let o := Clu.release s
    o.1 = s.setClu o.1.clu ∧ o.1.clu.claim = 0 ∧ o.1.clu.pendingFloor = none ∧ o.1.clu.pendingCeiling = none ∧
      o.1.clu.floorReq = none ∧ (∀ b, o.1.clu.bid = some b → b.kind = .step) ∧
      (s.clu.claim ≠ 0 → .slcCeiling ∈ o.2 ∧ .tbcStatus ∈ o.2 ∧ o.1.clu.grace = none) := by
  intro o
  by_cases hn : s.clu.nothingToRelease = true
  · have ho : o = (s, []) := if_pos hn
    simp only [Clu.nothingToRelease, Bool.and_eq_true, beq_iff_eq, Option.isNone_iff_eq_none, Bool.not_eq_true'] at hn
    obtain ⟨⟨⟨⟨hclaim, hreq⟩, hfloor⟩, hceiling⟩, hbid⟩ := hn
    rw [ho]
    refine ⟨rfl, hclaim, hfloor, hceiling, hreq, fun b hb => ?_, fun k => absurd hclaim k⟩
    rw [show s.clu.bid = some b from hb] at hbid
    cases hk : b.kind with
    | step => rfl
    | claim k => rw [Option.any_some, hk] at hbid; exact absurd hbid.symm Bool.false_ne_true
  · have ho : o = (Clu.put
        { (s.clu.endBid OwnKind.isClaim).1 with
          kf := 0, kc := 0, pendingFloor := none, pendingCeiling := none, grace := none, lowRun := 0, floorReq := none
          budgetWait := false, chargeWish := none } s).emit (s.clu.endBid OwnKind.isClaim).2 := if_neg hn
    rw [ho]
    refine ⟨rfl, rfl, rfl, rfl, rfl, fun b hb => ?_, fun hc => ?_⟩
    · have hb : (s.clu.endBid OwnKind.isClaim).1.bid = some b := hb
      unfold Clu.endBid at hb
      split at hb
      next b' hb' =>
        split at hb
        · exact absurd hb (by simp)
        next hk =>
          rw [hb'] at hb
          obtain rfl := Option.some.inj hb
          cases hkind : b'.kind with
          | step => rfl
          | claim k => rw [hkind] at hk; exact absurd rfl hk
      next hb' => exact absurd (hb'.symm.trans hb) (by simp)
    · have hchange : (0 != s.clu.kf || 0 != s.clu.kc) = true := by
        rw [Bool.or_eq_true, bne_iff_ne, bne_iff_ne]
        by_contra k
        rw [not_or, not_not, not_not] at k
        exact hc (by rw [Clu.claim, ← k.1, ← k.2])
      refine ⟨?_, ?_, rfl⟩ <;> simp [Clu.put, Out.emit, hchange]

/-- R159: the slot held is freed. -/
theorem Clu.freeStep_of_held (h : s.clu.stepHeld = true) :
    Clu.freeStep s = (Clu.put { s.clu with stepHeld := false } s).emit [.bkdSlot false, .tbcOrder .stepFree] := if_pos h

/-- R58: the watch expires in ISOLATING. -/
theorem Csq.watchExpired_of_isolating (hw : s.csq.isoWatch.isSome = true) (h : s.csq.state = .isolating) :
    Csq.watchExpired s = (s.setCsq { s.csq with isoWatch := none, cableLive := true }, [.atuSources]) := by
  unfold Csq.watchExpired
  rw [if_neg (by simpa [Option.isSome_iff_ne_none] using hw), if_pos (beq_iff_eq.mpr h)]

/-- R176: a source that has just come sets its status. -/
theorem Atu.take_onset {x : Status} {now : List Status} {a : Atu} (f : Figures) (hx : x ∈ now) (ha : x ∉ a.present) :
    x ∈ (a.take now f).statuses := by
  simp [Atu.take, hx, ha]

end Timers

/-- Settles O21: by the state in which each timer expires. -/
theorem sequencerTimersExpire : Obligations.SequencerTimersExpire := by
  refine fun s => ⟨fun hd => ?delay, fun hs => ?slot, fun hh => ?free, fun hq => ?quiet, Clu.release_leaves s,
    fun hw hi hr hs => ?watch⟩
  case delay =>
    intro o
    refine ⟨rfl, Csq.releaseExpired_only s, Csq.releaseExpired_csq hd, fun p hp hstate => ?_, fun hp hstate => ?_⟩
    · have ho : o = _ := Csq.releaseExpired_of_connected hd hstate
      obtain ⟨hstate, -, hopen, hwatch, hlog, -, hproc⟩ := Csq.isolateWith_leaves .forced .releaseExpired s.undelayed
      rw [ho]
      exact ⟨hstate, hlog, hopen, hwatch, hproc.trans (by rw [show s.undelayed.csq.proc = some p from hp]; rfl)⟩
    · have ho : o = _ := Csq.releaseExpired_of_shore hd hstate hp
      rw [ho]
      exact ⟨rfl, List.mem_cons_self .., rfl, rfl⟩
  case slot =>
    exact congrArg Out.outcome (if_pos hs)
  case free =>
    show (Clu.freeStep s).1 = _ ∧ ∀ h ∈ _, h ∈ (Clu.freeStep s).2
    rw [Clu.freeStep_of_held hh]
    exact ⟨rfl, by simp [Clu.put, Out.emit, hh]⟩
  case quiet =>
    exact congrArg Out.outcome (if_pos hq)
  case watch =>
    intro u
    have hsettled : (u.setAtu (s.atu.take u.presentSources s.figs)).settled = true :=
      settled_congr (s := s) rfl rfl rfl hs
    have hcome : .cableLive ∈ u.presentSources := List.mem_filter.mpr ⟨by decide, rfl⟩
    refine ⟨?_, fun k => Atu.take_onset _ hcome k⟩
    show Out.outcome (Csq.watchExpired s) = _
    rw [Csq.watchExpired_of_isolating hw hi]
    refine congrArg Host.Outcome.next ((Out.conclude_of_answered ?_).trans (Out.conclude_settled _ hsettled))
    exact if_pos hr

end Sys2Proof.Machine

namespace Sys2Proof.Machine

/-! ### Release buttons -/

section Release

variable {s : State} {p : Procedure}

theorem Csq.release_of_transfer (h : s.csq.state.transferring = true ∨ s.csq.state = .parallel) :
    Csq.release s = Csq.supersede .operator s := by
  unfold Csq.release
  cases hs : s.csq.state <;> rw [hs] at h <;> first | rfl | exact absurd h (by simp [SeqState.transferring])

/-- R50, R61: a short RELEASE elsewhere. -/
theorem Csq.release_of_idle
    (h : s.csq.state ∈ [SeqState.start, .vacant, .hooked, .releaseWait, .handback, .unloading, .isolating, .lockout]) :
    Csq.release s = (s, []) := by
  unfold Csq.release
  simp only [List.mem_cons, List.not_mem_nil, or_false] at h
  rcases h with h | h | h | h | h | h | h | h <;> rw [h]

/-- R50: in SHORE a HANDBACK is opened and the release delay starts or runs on. -/
theorem Csq.release_of_shore (h : s.csq.state = .shore) :
    let o := Csq.release s
    o.1.csq.state = .releaseWait ∧ o.1.csq.proc = some ⟨.handback, .none, s.csq.runTime, none⟩ ∧
      o.1.csq.releaseDelay = some (s.csq.releaseDelay.getD (s.figs.releaseDelay * 1000)) ∧
      .slcOrder (.release false) ∈ o.2 := by
  unfold Csq.release
  rw [h]
  exact ⟨rfl, rfl, rfl, List.mem_cons_self ..⟩

/-- R61: a superseded transfer keeps its retry count but at VACANT, and is opened at once out of PARALLEL. -/
theorem Csq.supersede_wayOut (c : Cause) (hp : s.csq.proc = some p) :
    let o := Csq.supersede c s
    (o.1.csq.state ≠ .vacant → o.1.csq.retry = s.csq.retry) ∧
      (s.csq.state = .parallel → o.1.csq.state = .isolating ∧ o.2.head? = some .bkdOpen) := by
  have hend := Csq.endProc_of_some .superseded c hp
  unfold Csq.supersede
  rw [hend]
  obtain ⟨hs, e⟩ | e := Csq.wayOut_cases false (s.setCsq (s.csq.write
    (s.recordNow p.kind.record .superseded c p.mode p.start)),
      .atuSources :: (if answeredRefused p.kind .superseded then [.slcOrder (.refused c)] else []))
  · have hne : s.csq.state ≠ .parallel := fun k => by
      have hs : (s.csq.state != .parallel && s.bkd.state == .opened && s.esd.state == .closed && s.releaseAtOnce) = true :=
        hs
      rw [k] at hs
      exact absurd hs (by simp)
    rw [e]
    refine ⟨?_, fun k => absurd k hne⟩
    obtain e | e := Csq.enterRest_eq (s.setCsq (s.csq.write (s.recordNow p.kind.record .superseded c p.mode p.start)))
    · rw [e]
      exact fun _ => rfl
    · rw [e]
      exact fun k => absurd rfl k
  · rw [e]
    exact ⟨fun _ => rfl, fun _ => ⟨rfl, rfl⟩⟩

/-- R56: a hard release of a connection. -/
theorem Csq.hardRelease_of_connected (h : s.csq.state ∈ [SeqState.shore, .releaseWait, .handback, .unloading]) :
    Csq.hardRelease s =
      (if s.csq.proc.isNone then Csq.openProc .handback .none none s else (s, [])).andThen
        (Csq.isolateWith .forced .hardRelease) := by
  unfold Csq.hardRelease
  simp only [List.mem_cons, List.not_mem_nil, or_false] at h
  rcases h with h | h | h | h <;> rw [h]

theorem Csq.hardRelease_of_idle (h : s.csq.state ∉ [SeqState.shore, .releaseWait, .handback, .unloading]) :
    Csq.hardRelease s = (s, []) := by
  unfold Csq.hardRelease
  cases hs : s.csq.state <;> rw [hs] at h <;> first | rfl | exact absurd h (by decide)

end Release

/-- Settles O23: by the state of the sequencer at the press. -/
theorem releaseButtonShortAndHard : Obligations.ReleaseButtonShortAndHard := by
  refine fun s => ⟨fun hsettle => ?short, fun hheld hrep => ?hard⟩
  case short =>
    intro o
    have ho : o = Csq.release (s.pressed .release) := Pnl.press_of_settling (b := .release) _ hsettle
    have honly : OnlyCsq (s.pressed .release) o.1 := by rw [ho]; exact Csq.release_only _
    have hpnl : o.1.pnl = (s.pressed .release).pnl := by rw [honly]; rfl
    refine ⟨rfl, by rw [hpnl]; exact honly, fun h => ?_, fun h p hp hk => ?_, fun h => ?_⟩
    · rw [ho]
      exact Csq.release_of_shore (s := s.pressed .release) h
    · rw [ho, Csq.release_of_transfer (s := s.pressed .release) h]
      obtain ⟨hproc, hwithdrawn, hlog⟩ := Csq.supersede_of_some .operator (s := s.pressed .release) hp
      obtain ⟨hretry, hopen⟩ := Csq.supersede_wayOut .operator (s := s.pressed .release) hp
      exact ⟨hproc, hretry, hlog.trans (by rw [hk]; rfl), hwithdrawn, hopen⟩
    · rw [ho, Csq.release_of_idle (s := s.pressed .release) h]
      exact ⟨rfl, rfl⟩
  case hard =>
    intro o
    have ho : o = Csq.hardRelease (s.reportedHeld .release) := Pnl.held_of_held (b := .release) _ hheld hrep
    have honly : OnlyCsq (s.reportedHeld .release) o.1 := by rw [ho]; exact Csq.hardRelease_only _
    have hpnl : o.1.pnl = (s.reportedHeld .release).pnl := by rw [honly]; rfl
    refine ⟨rfl, by rw [hpnl]; exact honly, by rw [hpnl]; rfl, fun h => ?_, fun h => ?_⟩
    · have he : o = _ := ho.trans (Csq.hardRelease_of_connected (s := s.reportedHeld .release) h)
      cases hp : s.csq.proc with
      | none =>
        rw [show (s.reportedHeld .release).csq.proc = none from hp] at he
        rw [he]
        exact ⟨rfl, rfl, List.mem_cons_self .., fun p k => absurd k (by simp), fun _ => rfl⟩
      | some p =>
        rw [show (s.reportedHeld .release).csq.proc = some p from hp] at he
        rw [he]
        refine ⟨rfl, rfl, List.mem_cons_self .., fun q k => ?_, fun k => absurd k (by simp)⟩
        obtain rfl := Option.some.inj k
        exact congrArg (Option.map _) hp
    · rw [ho, Csq.hardRelease_of_idle (s := s.reportedHeld .release) h]
      exact ⟨rfl, rfl⟩

/-! ### Buttons, flash and clock -/

section Panel

variable {s : State}

/-- A change of the panel interface makes nothing due. -/
theorem Out.conclude_setPnl (p : Pnl) (h : s.settled = true) : Out.conclude (s.setPnl p, []) = (s.setPnl p).refresh :=
  Out.conclude_settled _ (settled_congr (s := s) rfl rfl rfl h)

/-- R172: a button is pressed or let go, in a running part. -/
theorem exec_buttonInputChange (b : Button) (pressed : Bool) (hr : s.running = true) (hs : s.settled = true) :
    exec (.buttonInputChange b pressed) s =
      .next ((s.setPins (s.pins.setButton b pressed)).setPnl (s.pnl.setValidator b
        (if pressed then (s.pnl.validator b).pressedAt s.csq.clockMs else (s.pnl.validator b).letGo))).refresh := by
  exact (congrArg Out.outcome (if_pos hr)).trans
    (congrArg Host.Outcome.next (Out.conclude_setPnl _ (State.settled_setPins _ hs)))

theorem Validator.pressedAt_of_idle {v : Validator} (n : Nat) (h : v.state = .idle) :
    v.pressedAt n = { v with state := .settling, settle := some 50, since := n, reported := false } := by
  rw [Validator.pressedAt, h]

theorem Validator.pressedAt_of_held {v : Validator} (n : Nat) (h : v.state = .held ∨ v.state = .lockedOut) :
    v.pressedAt n = { v with letgo := none } := by
  rcases h with h | h <;> rw [Validator.pressedAt, h]

theorem Validator.letGo_of_settling {v : Validator} (h : v.state = .settling) :
    v.letGo = { v with state := .idle, settle := none } := by
  rw [Validator.letGo, h]

theorem Validator.letGo_of_held {v : Validator} (h : v.state = .held ∨ v.state = .lockedOut) :
    v.letGo = { v with letgo := some (v.letgo.getD 50) } := by
  rcases h with h | h <;> rw [Validator.letGo, h]

end Panel

/-- Settles O25: by the state of the button's validator; the flash, the clock and the pulse by their equations. -/
theorem buttonsFlashAndClockRun : Obligations.ButtonsFlashAndClockRun := by
  refine fun s hr hs => ⟨?button, fun b h => ?letgo, fun hf ht => ?toggle, ?flashEnd, fun ht => ?tick, ?pulse⟩
  case button =>
    intro b pressed v p left
    have he := exec_buttonInputChange b pressed hr hs
    refine ⟨fun h hp => ?_, fun h hp => ?_, fun h hp => ?_, fun h hp => ?_⟩ <;> subst hp <;> rw [he]
    · rw [if_pos rfl, Validator.pressedAt_of_idle _ h]
    · rw [if_neg Bool.false_ne_true, Validator.letGo_of_settling h]
    · rw [if_neg Bool.false_ne_true, Validator.letGo_of_held h]
    · rw [if_pos rfl, Validator.pressedAt_of_held _ h]
  case letgo =>
    exact (congrArg Out.outcome (if_pos h)).trans (congrArg Host.Outcome.next (Out.conclude_setPnl _ hs))
  case toggle =>
    exact (congrArg Out.outcome (if_pos (by rw [hf, ht]; rfl))).trans
      (congrArg Host.Outcome.next (Out.conclude_setPnl _ hs))
  case flashEnd => exact congrArg Host.Outcome.next (Out.conclude_setPnl _ hs)
  case tick =>
    exact (congrArg Out.outcome (if_pos ht)).trans (congrArg Host.Outcome.next (Out.conclude_setPnl _ hs))
  case pulse =>
    exact congrArg Host.Outcome.next (Out.conclude_settled _ (settled_congr (s := s) rfl rfl rfl hs))

end Sys2Proof.Machine

namespace Sys2Proof.Machine

/-! ## The shore breaker and the trip record -/

/-! ### The auxiliary contacts -/

section Contacts

variable {s : State} {auxc auxo : Bool}

theorem contactReading_closed : contactReading auxc auxo = .closed ↔ auxc = true ∧ auxo = false := by
  cases auxc <;> cases auxo <;> simp [contactReading]

theorem contactReading_opened : contactReading auxc auxo = .opened ↔ auxc = false ∧ auxo = true := by
  cases auxc <;> cases auxo <;> simp [contactReading]

/-- The state in which a change of the auxiliary contacts is judged. -/
def State.contacted (auxc auxo : Bool) (s : State) : State := s.setPins { s.pins with auxc := auxc, auxo := auxo }

/-- R68, R72, R73, R76, R78, R79: what a running part does with a reading, in a state of the breaker; `b` is the breaker
drive with the reading taken. -/
def Bkd.judge (state : BreakerState) (reading : Contact) (b : Bkd) (t : State) : Out :=
  match state, reading with
  | .closing, .closed => Bkd.take { b with closeSup := none, state := .closed } t
  | .closing, _ => (t.setBkd b, [])
  | .closed, .opened =>
    (Bkd.take { b with hold := false, contactWatch := none, state := .opened } t).emit [.ptuOnset .breakerDrop]
  | .closed, .closed => (t.setBkd { b with contactWatch := none }, [])
  | .closed, _ => (t.setBkd { b with contactWatch := some (b.contactWatch.getD 100) }, [])
  | .opening, .opened => Bkd.take { b with openSup := none, state := .opened } t
  | .opening, _ => (t.setBkd b, [])
  | .failed, .opened => Bkd.take { b with state := .opened } t
  | .failed, _ => (t.setBkd b, [])
  | .opened, .opened => (t.setBkd b, [])
  | .opened, _ => Bkd.unexpectedClose (t.setBkd b)

/-- The breaker drive with the reading of its contacts taken. -/
def Bkd.read (r : Contact) (b : Bkd) : Bkd := { b with reading := r }

theorem Bkd.contacts_eq (hr : s.running = true) :
    Bkd.contacts auxc auxo s =
      Bkd.judge s.bkd.state (contactReading auxc auxo) (s.bkd.read (contactReading auxc auxo)) (s.contacted auxc auxo) :=
  if_neg (show ¬ (!s.running) = true by rw [hr]; exact Bool.false_ne_true)

/-- A reading changes the breaker drive alone, which keeps it. -/
theorem Bkd.judge_only (state : BreakerState) (r : Contact) (b : Bkd) (t : State) :
    (Bkd.judge state r b t).1 = t.setBkd (Bkd.judge state r b t).1.bkd ∧
      (Bkd.judge state r b t).1.bkd.reading = b.reading := by
  unfold Bkd.judge
  split <;> exact ⟨rfl, rfl⟩

/-- R69: a change of the breaker state goes to the sequencer. -/
theorem Bkd.csqBreaker_mem_take {b : Bkd} {new : BreakerState} (hb : b.state = new) (h : new ≠ s.bkd.state) :
    .csqBreaker new ∈ (Bkd.take b s).2 := by
  rw [Bkd.take, hb, if_pos (bne_iff_ne.mpr h)]
  simp

/-- R79: the onset goes before the change of state. -/
theorem Bkd.unexpectedClose_latches (t : State) : .unexpectedClose ∈ (Bkd.unexpectedClose t).conclude.ptu.latched :=
  Out.conclude_latched_of_head (Ptu.onset_self_mem .unexpectedClose _)

end Contacts

/-- Settles O27: by the breaker state and the reading. -/
theorem contactsMoveTheBreakerState : Obligations.ContactsMoveTheBreakerState := by
  intro auxc auxo s hr o r
  have ho : o = Bkd.judge s.bkd.state r (s.bkd.read r) (s.contacted auxc auxo) := Bkd.contacts_eq hr
  obtain ⟨honly, hread⟩ := Bkd.judge_only s.bkd.state r (s.bkd.read r) (s.contacted auxc auxo)
  rw [← ho] at honly hread
  have hpins : o.1.pins = (s.contacted auxc auxo).pins := by rw [honly]; rfl
  refine ⟨rfl, by rw [hpins]; exact honly, hread, hpins, contactReading_closed, contactReading_opened, fun hs h => ?_,
    fun hs h => ?_, fun hs h => ?_, fun hs h => ?_, fun hs h => ?_, fun hs h => ?_, fun hs h => ?_, fun hs h => ?_,
    fun hs h => ?_⟩
  · rw [ho, hs, h]
    exact ⟨rfl, rfl, rfl, Bkd.csqBreaker_mem_take (s :=
      s.contacted auxc auxo) rfl (by rw [show (s.contacted auxc auxo).bkd.state = _ from hs]; decide)⟩
  · rw [ho, hs]
    cases hr : r <;> first | exact ⟨rfl, rfl⟩ | exact absurd hr h
  · rw [ho, hs, h]
    exact ⟨rfl, rfl, List.mem_append_right _ (List.mem_singleton_self _)⟩
  · rw [ho, hs, h]
    exact ⟨rfl, rfl⟩
  · rw [ho, hs]
    rcases h with h | h <;> rw [h] <;> exact ⟨hs, rfl, rfl⟩
  · rw [ho, hs, h]
    exact ⟨rfl, rfl, Bkd.csqBreaker_mem_take (s :=
      s.contacted auxc auxo) rfl (by rw [show (s.contacted auxc auxo).bkd.state = _ from hs]; decide)⟩
  · rw [ho, hs, h]
    exact ⟨rfl, rfl⟩
  · have hu : o = Bkd.unexpectedClose ((s.contacted auxc auxo).setBkd (s.bkd.read r)) := by
      rw [ho, hs]
      cases hr : r <;> first | rfl | exact absurd hr h
    rw [hu]
    exact ⟨rfl, rfl, rfl, Bkd.unexpectedClose_latches _⟩
  · rw [ho]
    rcases hs with hs | hs <;> rw [hs] <;> cases hr : r <;> first | exact ⟨rfl, rfl⟩ | exact absurd hr h

/-! ### Pulses, the anti-pump period and the emergency stop -/

/-- R74: an open ordered while CLOSE is asserted. -/
theorem Bkd.order_of_pulse {b : Bkd} {n : Nat} (hn : b.closePulse = some n) (h : b.state = .closing ∨
    b.state = .closed) :
    b.order = b.opensClosing := by
  rcases h with h | h <;> rw [Bkd.order, h]
  rw [hn]
  rfl

/-- Settles O28: by the equations of the pulses and of a trip during closing. -/
theorem pulsesAntiPumpAndEmergencyStop : Obligations.PulsesAntiPumpAndEmergencyStop := by
  refine fun s => ⟨fun hs => ⟨?close, ?trip⟩, fun ha => ?antiPump, fun n hn h => ?closing, fun hr hs => ?made,
    fun hr he => ?opened⟩
  case close => exact congrArg Host.Outcome.next (Out.conclude_settled _ (settled_congr (s := s) rfl rfl rfl hs))
  case trip => exact congrArg Host.Outcome.next (Out.conclude_settled _ (settled_congr (s := s) rfl rfl rfl hs))
  case antiPump => exact congrArg Out.outcome (if_pos ha)
  case closing =>
    intro o u
    have hb : o.1.bkd = s.bkd.opensClosing := Bkd.order_of_pulse hn h
    have hfirst : o.1 = s.setBkd
        { s.bkd with
          hold := false, tripPulse := some 100, closeSup := none, contactWatch := none, state := .opening
          antiPump := some 10000, openSup := some (n + 100) } := by
      have hd : s.bkd.closePulse.getD 0 = n := by rw [hn]; rfl
      show s.setBkd o.1.bkd = _
      rw [hb, Bkd.opensClosing, hd]
    refine ⟨hfirst, ?_⟩
    show (Bkd.slot false o.1).1 = _
    rw [hfirst]
    have hp : (!false && s.bkd.closePulse.isSome) = true := by rw [hn]; rfl
    exact congrArg Prod.fst (if_pos hp)
  case made =>
    refine (congrArg Out.outcome (if_pos hr)).trans ?_
    exact congrArg Host.Outcome.next (Out.conclude_settled _ (settled_congr (s := s) rfl rfl rfl hs))
  case opened =>
    intro o
    have hcome : (true && !s.ptu.eStop) = true := by rw [he]; rfl
    have ho : o = ((s.setPins { s.pins with eStop := true }).setPtu { s.ptu with eStop := true }, [.ptuOnset .eStop]) :=
      (if_pos hr).trans (congrArg (Prod.mk _) (if_pos hcome))
    rw [ho]
    exact ⟨congrArg Out.outcome ho, rfl, rfl, rfl, Out.conclude_latched_of_head (Ptu.onset_self_mem .eStop _)⟩

/-! ### The supervisions -/

section Supervisions

variable {s : State}

/-- R73: what an open leaves of the breaker drive, by its reading. -/
theorem Bkd.opens_leaves (b : Bkd) :
    b.opens.hold = false ∧ b.opens.tripPulse = some 100 ∧ b.opens.closeSup = none ∧ b.opens.contactWatch = none ∧
      b.opens.antiPump = b.antiPump ∧
      (b.reading ≠ .opened → b.opens.state = .opening ∧ b.opens.openSup = some 100) ∧
      (b.reading = .opened → b.opens.state = .opened ∧ b.opens.openSup = none) := by
  refine ⟨rfl, rfl, rfl, rfl, rfl, fun h => ?_, fun h => ?_⟩
  · exact ⟨if_neg fun k => h (beq_iff_eq.mp k), if_neg fun k => h (beq_iff_eq.mp k)⟩
  · exact ⟨if_pos (beq_iff_eq.mpr h), if_pos (beq_iff_eq.mpr h)⟩

end Supervisions

/-- Settles O29: by the reading at the expiry. -/
theorem breakerSupervisionsExpire : Obligations.BreakerSupervisionsExpire := by
  refine fun s => ⟨fun h => ?close, fun h => ?opening, fun h => ?watch⟩
  case close =>
    intro o
    have ho : o = ((Bkd.take { s.bkd with antiPump := some 10000 }.opens s).1,
        .csqCloseFailed :: (Bkd.take { s.bkd with antiPump := some 10000 }.opens s).2) := if_pos h
    obtain ⟨hhold, htrip, hsup, -, hpump, hopening, hopened⟩ := Bkd.opens_leaves { s.bkd with antiPump := some 10000 }
    rw [ho]
    exact ⟨congrArg Out.outcome ho, rfl, hhold, htrip, hpump, hsup, rfl, hopening, hopened⟩
  case opening =>
    intro o
    refine ⟨rfl, fun hne => ?_, fun he => ?_⟩
    · have ho : o = ((Bkd.take { s.bkd with openSup := none, hold := false, upstream := true, state := .failed } s).1,
          .ptuOnset .breakerFail ::
            (Bkd.take { s.bkd with openSup := none, hold := false, upstream := true, state := .failed } s).2) :=
        (if_pos h).trans (if_neg fun k => hne (beq_iff_eq.mp k))
      rw [ho]
      exact ⟨rfl, Out.conclude_latched_of_head (Ptu.onset_self_mem .breakerFail _)⟩
    · have ho : o = Bkd.take { s.bkd with openSup := none, hold := false, state := .opened } s :=
        (if_pos h).trans (if_pos (beq_iff_eq.mpr he))
      rw [ho]
      rfl
  case watch =>
    intro o
    have ho : o = ((Bkd.take s.bkd.opens s).1, .ptuOnset .breakerDrop :: (Bkd.take s.bkd.opens s).2) := if_pos h
    obtain ⟨hhold, htrip, -, hwatch, -⟩ := Bkd.opens_leaves s.bkd
    rw [ho]
    exact ⟨congrArg Out.outcome ho, rfl, hhold, htrip, hwatch,
      Out.conclude_latched_of_head (Ptu.onset_self_mem .breakerDrop _)⟩

/-- Settles O31: an onset of a source not yet latched, by the set that it finds; no onset otherwise. -/
theorem tripOnsetIsRecordedOnce : Obligations.TripOnsetIsRecordedOnce := by
  refine fun x s => ⟨fun hx => ?_, fun hx => if_pos (List.contains_iff_mem.mpr hx)⟩
  intro o
  have ho : o = _ := if_neg (mt List.contains_iff_mem.mp hx)
  rw [ho]
  refine ⟨?_, rfl, fun h => ?_, fun h => ?_⟩
  · simp only
    split <;> rfl
  · simp only [h, List.isEmpty_nil, if_true]
    exact ⟨rfl, rfl, rfl, rfl⟩
  · simp only [List.isEmpty_eq_false_iff.mpr h, Bool.false_eq_true, if_false]
    exact ⟨rfl, rfl, rfl⟩

end Sys2Proof.Machine

namespace Sys2Proof.Machine

/-! ## TRANSFER-IN, READY and UNLOADED of the ship -/

section Requests

variable {s : State} {preferred : Mode} {p : Procedure}

/-- R41: a TRANSFER-IN in HOOKED, by the first of its conditions that fails. -/
theorem Csq.transferIn_of_hooked (h : s.csq.state = .hooked) :
    Csq.transferIn preferred s =
      if s.csq.mask then refuse .masked s
      else if s.csq.retry ≥ 3 then refuse .retries s
      else if !s.ptu.latched.isEmpty then refuse .tripLatched s
      else if s.chooseMode preferred == .none then refuse .mode s
      else (Csq.openProc .transferIn (s.chooseMode preferred) none s).andThen
        (Csq.enterProving (s.chooseMode preferred)) := by
  unfold Csq.transferIn
  rw [h]

theorem Csq.transferIn_of_acceptable (h : s.csq.state = .hooked) (hm : s.csq.mask = false) (hr : s.csq.retry < 3)
    (hl : s.ptu.latched = []) (hmode : s.chooseMode preferred ≠ .none) :
    Csq.transferIn preferred s = (Csq.openProc .transferIn (s.chooseMode preferred) none s).andThen
      (Csq.enterProving (s.chooseMode preferred)) := by
  rw [Csq.transferIn_of_hooked h]
  simp [hm, hl, hmode, Nat.not_le.mpr hr]

theorem Csq.transferIn_refuses (h : s.csq.state = .hooked) :
    (s.csq.mask = true → Csq.transferIn preferred s = refuse .masked s) ∧
      (s.csq.mask = false → 3 ≤ s.csq.retry → Csq.transferIn preferred s = refuse .retries s) ∧
      (s.csq.mask = false → s.csq.retry < 3 → s.ptu.latched ≠ [] → Csq.transferIn preferred s = refuse .tripLatched s) ∧
      (s.csq.mask = false → s.csq.retry < 3 → s.ptu.latched = [] → s.chooseMode preferred = .none →
        Csq.transferIn preferred s = refuse .mode s) := by
  rw [Csq.transferIn_of_hooked h]
  refine ⟨fun hm => if_pos hm, fun hm hr => ?_, fun hm hr hl => ?_, fun hm hr hl hmode => ?_⟩
  · rw [hm, if_neg Bool.false_ne_true, if_pos hr]
  · rw [hm, if_neg Bool.false_ne_true, if_neg (Nat.not_le.mpr hr), List.isEmpty_eq_false_iff.mpr hl]
    rfl
  · rw [hm, if_neg Bool.false_ne_true, if_neg (Nat.not_le.mpr hr), hl, hmode]
    rfl

theorem Csq.transferIn_of_connected (h : s.csq.state.transferring = true ∨ s.csq.state = .parallel ∨
    s.csq.state = .shore) :
    Csq.transferIn preferred s = (s, []) := by
  unfold Csq.transferIn
  cases hs : s.csq.state <;> rw [hs] at h <;> first | rfl | exact absurd h (by simp [SeqState.transferring])

theorem Csq.transferIn_of_elsewhere
    (h : s.csq.state ∈ [SeqState.start, .vacant, .releaseWait, .handback, .unloading, .isolating, .lockout]) :
    Csq.transferIn preferred s = refuse .sequence s := by
  unfold Csq.transferIn
  simp only [List.mem_cons, List.not_mem_nil, or_false] at h
  rcases h with h | h | h | h | h | h | h <;> rw [h]

/-- R45: a READY awaited in SYNCING. -/
theorem Csq.readyMsg_of_syncing (hsub : s.csq.sub = .awaitingReady) (h : s.csq.state = .syncing) :
    Csq.readyMsg s = (s.setCsq { s.csq with sub := .awaitingPermission, phase := some 60000 }, [.sycReady]) := by
  simp [Csq.readyMsg, h, hsub]

/-- R47: a READY awaited in DEADWAIT. -/
theorem Csq.readyMsg_of_deadwait (hsub : s.csq.sub = .awaitingReady) (h : s.csq.state = .deadwait) :
    Csq.readyMsg s = (s.setCsq { s.csq with sub := .awaitingPermission, phase := some 5000 }, [.sycReady]) := by
  simp [Csq.readyMsg, h, hsub]

theorem Csq.readyMsg_absorbed (hsub : s.csq.sub ≠ .awaitingReady) (h : s.csq.state = .syncing ∨
    s.csq.state = .deadwait) :
    Csq.readyMsg s = (s, []) := by
  rcases h with h | h <;> simp [Csq.readyMsg, h, hsub]

/-- R53: a READY in a HANDBACK of OPEN mode completes it. -/
theorem Csq.readyMsg_of_handback (h : s.csq.state = .handback) (hp : s.csq.proc = some p) (hm : p.mode = .opened) :
    Csq.readyMsg s = Csq.isolateWith .completed .none s := by
  unfold Csq.readyMsg
  rw [h]
  exact if_pos (by rw [hp, Option.any_some, hm]; rfl)

theorem Csq.readyMsg_of_refused (h : s.csq.state ∉ [SeqState.syncing, .deadwait, .handback] ∨
    s.csq.state = .handback ∧ s.csq.proc.map (·.mode) ≠ some .opened) : Csq.readyMsg s = refuse .sequence s := by
  unfold Csq.readyMsg
  rcases h with h | ⟨h, hm⟩
  · cases hs : s.csq.state <;> rw [hs] at h <;> first | rfl | exact absurd h (by decide)
  · rw [h]
    refine if_neg fun k => hm ?_
    obtain ⟨q, hq, hqm⟩ := (Option.any_eq_true ..).mp k
    rw [hq, Option.map_some, beq_iff_eq.mp hqm]

/-- R48: an UNLOADED in PARALLEL completes the TRANSFER-IN. -/
theorem Csq.unloadedMsg_of_parallel (h : s.csq.state = .parallel) (hp : s.csq.proc = some p)
    (hk : p.kind = .transferIn) :
    let o := Csq.unloadedMsg s
    o.1.csq.state = .shore ∧ o.1.csq.proc = none ∧ o.1.csq.slotTimer = some 10000 ∧
      o.1.csq.shoreEntry = some s.csq.runTime ∧ o.1.csq.phase = none ∧
      o.1.csq.log = appendRecord s.csq.log (s.recordNow .transferIn .completed .none p.mode p.start) := by
  have ho : Csq.unloadedMsg s = (Csq.endProc .completed .none s).andThen Csq.enterShoreNew :=
    if_pos (beq_iff_eq.mpr h)
  intro o
  have ho : o = _ := ho
  rw [ho, Csq.endProc_of_some .completed .none hp, hk]
  exact ⟨rfl, rfl, rfl, rfl, rfl, rfl⟩

end Requests

/-- Settles O34: each message by the state it finds. -/
theorem shipTransferRequestsAreTaken : Obligations.ShipTransferRequestsAreTaken := by
  refine fun s hup => ⟨fun m => ?transfer, ?ready, ?unloaded⟩
  case transfer =>
    intro mode o
    have ho : o = Csq.transferIn (Mode.ofByte m) s.requested := Slc.message_request_of_up _ hup
    obtain ⟨hsilence, hframe⟩ := OnlyCsq.of_requested (t := o.1) (by rw [ho]; exact Csq.transferIn_only _ _)
    have hmode : s.requested.chooseMode (Mode.ofByte m) = mode := by
      unfold State.chooseMode
      simp only [State.requested_modeAvailable]
      rfl
    refine ⟨rfl, hsilence, hframe, fun h hm hr hl hne => ?_, fun h => ?_, fun h => ?_, fun h => ?_⟩ <;> rw [ho]
    · rw [Csq.transferIn_of_acceptable (s := s.requested) h hm hr hl (by rw [hmode]; exact hne), hmode]
      exact ⟨rfl, rfl, rfl, rfl, rfl, Csq.csqEntered_mem_enter .proving id _⟩
    · obtain ⟨h1, h2, h3, h4⟩ := Csq.transferIn_refuses (s := s.requested) (preferred := Mode.ofByte m) h
      exact ⟨fun hm => by rw [h1 hm]; rfl, fun hm hr => by rw [h2 hm hr]; rfl, fun hm hr hl => by rw [h3 hm hr hl]; rfl,
        fun hm hr hl hn => by rw [h4 hm hr hl (hmode.trans hn)]; rfl⟩
    · rw [Csq.transferIn_of_connected (s := s.requested) h]
      exact ⟨rfl, rfl⟩
    · rw [Csq.transferIn_of_elsewhere (s := s.requested) h]
      exact ⟨rfl, rfl⟩
  case ready =>
    intro o
    have ho : o = Csq.readyMsg s.requested := Slc.message_request_of_up _ hup
    obtain ⟨hsilence, hframe⟩ := OnlyCsq.of_requested (t := o.1) (by rw [ho]; exact Csq.readyMsg_only _)
    refine ⟨rfl, hsilence, hframe, fun hsub h => ?_, fun hsub h => ?_, fun hsub h => ?_, fun p h hp hm => ?_,
      fun h => ?_⟩ <;> rw [ho]
    · rw [Csq.readyMsg_of_syncing (s := s.requested) hsub h]
      exact ⟨rfl, rfl⟩
    · rw [Csq.readyMsg_of_deadwait (s := s.requested) hsub h]
      exact ⟨rfl, rfl⟩
    · rw [Csq.readyMsg_absorbed (s := s.requested) hsub h]
      exact ⟨rfl, rfl⟩
    · rw [Csq.readyMsg_of_handback (s := s.requested) h hp hm]
      obtain ⟨hstate, -, hopen, -, -, -, hproc⟩ := Csq.isolateWith_leaves .completed .none s.requested
      exact ⟨hstate, hopen, hproc.trans (by rw [show s.requested.csq.proc = some p from hp]; rfl)⟩
    · rw [Csq.readyMsg_of_refused (s := s.requested) h]
      exact ⟨rfl, rfl⟩
  case unloaded =>
    intro o
    have ho : o = Csq.unloadedMsg s.requested := Slc.message_request_of_up _ hup
    obtain ⟨hsilence, hframe⟩ := OnlyCsq.of_requested (t := o.1) (by rw [ho]; exact Csq.unloadedMsg_only _)
    refine ⟨rfl, hsilence, hframe, fun p h hp hk => ?_, fun h => ?_⟩ <;> rw [ho]
    · exact Csq.unloadedMsg_of_parallel (s := s.requested) h hp hk
    · rw [show Csq.unloadedMsg s.requested = refuse .sequence s.requested from if_neg fun k => h (beq_iff_eq.mp k)]
      exact ⟨rfl, rfl⟩

end Sys2Proof.Machine

namespace Sys2Proof.Machine

/-! ## Queries -/

section Queries

variable {s : State} {ident : BitVec 11} {d : List Byte}

/-- R140: a QUERY that names the own berth. -/
theorem Tbc.frame_of_query (hbus : s.tbc.can.onBus = true) (hid : ident.toNat = 384) (hown : 1 ≤ s.own)
    (hlen : d.length = 3) (hnamed : fieldNat d 0 1 = s.own) : Tbc.frame ident d s = Tbc.onQuery d s.heard := by
  have hpassed : reception s.own ident d = .passed .query 0 :=
    (reception_passed ..).mpr ⟨by simp [BusKind.code, hid], by simp [hid], by omega, by omega, rfl, by rw [hlen]; rfl⟩
  rw [Tbc.frame_of_passed hbus hpassed]
  exact if_pos hnamed

/-- R140: a query whose segments find too few places is disregarded. -/
theorem Tbc.query_of_full {item : Nat} {i : List Byte} (taken : State → Out)
    (h : ¬s.tbc.queue.length + (segments item i).length ≤ 24) : Tbc.query item i taken s = (s, []) := if_neg h

/-- A frame received, and segments ordered, leave at most an attempt due. -/
theorem State.conclude_heard (t : Tbc) (hs : s.settled = true) :
    Out.conclude (s.heard.setTbc t, []) = (s.heard.setTbc t).begun.refresh :=
  Out.conclude_begun _ fun hr =>
    (otherwiseCalm_congr (s := s.heard.setTbc t) (t := s.heard) rfl).trans (State.heard_otherwiseCalm hs hr)

/-- R140: a query that only reads, answered or disregarded. -/
theorem State.query_answers {item : Nat} {i : List Byte} (hs : s.settled = true) :
    (s.tbc.queue.length + (segments item i).length ≤ 24 →
      (Tbc.query item i (fun s => (s, [])) s.heard).outcome =
        .next (s.heard.setTbc (s.heard.tbc.reply (segments item i))).begun.refresh) ∧
    (¬s.tbc.queue.length + (segments item i).length ≤ 24 →
      (Tbc.query item i (fun s => (s, [])) s.heard).outcome = .next s.heard.begun.refresh) := by
  refine ⟨fun h => ?_, fun h => ?_⟩
  · exact (congrArg Out.outcome (if_pos h)).trans (congrArg Host.Outcome.next (State.conclude_heard _ hs))
  · exact (congrArg Out.outcome (Tbc.query_of_full (s := s.heard) _ h)).trans
      (congrArg Host.Outcome.next (Out.conclude_begun s.heard (State.heard_otherwiseCalm hs)))

end Queries

/-- Settles O44: by the item that byte 1 names, and by the room for its segments. -/
theorem queriesAreAnswered : Obligations.QueriesAreAnswered := by
  intro ident d s hbus hid hown hlen hnamed hs h n fits reply
  have hframe : Tbc.frame ident d s = Tbc.onQuery d s.heard := Tbc.frame_of_query hbus hid hown hlen hnamed
  refine ⟨fun hitem => ?summary, fun hitem => ?trip, fun hitem => ?result, fun hitem => ?peer⟩
  case summary =>
    have e : Tbc.onQuery d s.heard = Tbc.query 1 (h.summary n) (fun s => (s, [])) s.heard := by
      rw [Tbc.onQuery, hitem]
      rfl
    show (fits 1 (h.summary n) → (Tbc.frame ident d s).outcome = _) ∧ (_ → (Tbc.frame ident d s).outcome = _)
    rw [hframe, e]
    exact State.query_answers hs
  case trip =>
    have e : Tbc.onQuery d s.heard = Tbc.query 2 h.tripItem (fun s => (s, [])) s.heard := by
      rw [Tbc.onQuery, hitem]
      rfl
    show (fits 2 h.tripItem → (Tbc.frame ident d s).outcome = _) ∧ (_ → (Tbc.frame ident d s).outcome = _)
    rw [hframe, e]
    exact State.query_answers hs
  case result =>
    have e : Tbc.onQuery d s.heard = Tbc.query 3 h.resultItem Csq.popRecord s.heard := by
      rw [Tbc.onQuery, hitem]
      rfl
    show (fits 3 h.resultItem → (Tbc.frame ident d s).outcome = _) ∧ (_ → (Tbc.frame ident d s).outcome = _)
    rw [hframe, e]
    refine ⟨fun k => congrArg Out.outcome (if_pos k), fun k => ?_⟩
    rw [Tbc.query_of_full (s := s.heard) _ k]
    exact congrArg Host.Outcome.next (Out.conclude_begun s.heard (State.heard_otherwiseCalm hs))
  case peer =>
    have e : Tbc.onQuery d s.heard = Tbc.query 4 (h.peerItem n) (fun s => (s, [])) s.heard := by
      rw [Tbc.onQuery, hitem]
      rfl
    show (fits 4 (h.peerItem n) → (Tbc.frame ident d s).outcome = _) ∧ (_ → (Tbc.frame ident d s).outcome = _)
    rw [hframe, e]
    exact State.query_answers hs

/-! ## The own window and the timers of the claim -/

section Claim

variable {s : State}

/-- R148: a changed K is presented to the ship and to the peers. -/
theorem Clu.put_presents {c : Clu} (h : c.claim ≠ s.clu.claim) :
    .tbcStatus ∈ (Clu.put c s).2 ∧ .slcCeiling ∈ (Clu.put c s).2 := by
  have hchange : (c.kf != s.clu.kf || c.kc != s.clu.kc) = true := by
    rw [Bool.or_eq_true, bne_iff_ne, bne_iff_ne]
    by_contra k
    rw [not_or, not_not, not_not] at k
    exact h (by rw [Clu.claim, Clu.claim, k.1, k.2])
  simp [Clu.put, hchange]

/-- R148: a commit, as its window ends. -/
theorem Clu.windowExpired_of_open {w : OwnBid} (hb : s.clu.bid = some w) (hw : w.window.isSome = true) :
    Clu.windowExpired s = Clu.commit w.kind w.k s := by
  unfold Clu.windowExpired
  rw [hb]
  exact if_pos hw

end Claim

/-- Settles O51: by the kind of the bid that commits. -/
theorem ownWindowCommits : Obligations.OwnWindowCommits := by
  refine fun s => ⟨fun w hb hw => ?commit, fun hb => congrArg Out.outcome (if_pos hb)⟩
  case commit =>
    intro o
    have ho : o = Clu.commit w.kind w.k s := Clu.windowExpired_of_open hb hw
    have hreport {x : Handoff} (hx : x ∈ commitReports w.kind) : x ∈ o.2 := by
      rw [ho]
      exact List.mem_append_right _ (List.mem_append_left _ hx)
    have hclu : o.1.clu = s.clu.committed w.kind w.k := congrArg (·.1.clu) ho
    refine ⟨rfl, by rw [ho]; rfl, by rw [hclu]; exact Clu.committed_bid _ _ _, ?_, fun hk => ?_, fun hk => ?_,
      fun hk => ?_, fun hk => ?_, fun hne => ?_⟩
    · rw [ho]
      exact List.mem_append_right _ (List.mem_append_right _ (List.mem_singleton_self _))
    · refine ⟨?_, ?_, ?_, ?_, ?_, hreport (by rw [hk]; exact List.mem_singleton_self _)⟩ <;> rw [hclu, hk] <;> rfl
    · rw [hclu, hk]
      rfl
    · rw [hclu, hk]
      rfl
    · exact ⟨by rw [hclu, hk]; rfl, hreport (by rw [hk]; simp [commitReports]),
        hreport (by rw [hk]; simp [commitReports])⟩
    · rw [hclu] at hne
      obtain ⟨hstatus, hceiling⟩ := Clu.put_presents (s := s) hne
      rw [ho]
      exact ⟨List.mem_append_left _ hstatus, List.mem_append_left _ hceiling⟩

/-- Settles O52: each timer by its equation. -/
theorem claimTimersExpire : Obligations.ClaimTimersExpire := by
  refine fun s => ⟨fun p hg hp => ?grace, fun hs => ?topup, fun hreq hkf hw => ?budget, fun hp hr => ?pass⟩
  case grace =>
    intro o
    have ho : o = Clu.put { s.clu.lowered with grace := none } s := if_pos hg
    have hl : s.clu.lowered = { s.clu with kc := p - s.clu.kf, pendingCeiling := none, grace := none } := by
      unfold Clu.lowered
      rw [hp]
    rw [ho, hl]
    refine ⟨congrArg Out.outcome (ho.trans (by rw [hl])), ?_, rfl⟩
    simp [Clu.put, hp]
  case topup => exact congrArg Host.Outcome.next (Out.conclude_settled _ (settled_congr (s := s) rfl rfl rfl hs))
  case budget =>
    show (Clu.budgetWaits s).outcome = _
    have e : Clu.budgetWaits s = (s.setClu { s.clu with budgetWait := true }, [.atuSources]) := by
      unfold Clu.budgetWaits
      rw [if_pos (by rw [hreq, hkf]; rfl)]
      simp [Clu.put, hw]
    rw [e]
    rfl
  case pass =>
    intro o
    let u := s.setShc { s.shc with pass := some 1000 }
    have ho : o = (Shc.put u.sharePass u).emit [.cluDecision u.sharePass.decision, .cluAttempt] :=
      (if_pos hp).trans (if_pos hr)
    rw [ho]
    exact ⟨congrArg Out.outcome ho, rfl, _, rfl⟩

end Sys2Proof.Machine

namespace Sys2Proof.Machine

/-! ## The timers and the errors of the bus, stale peers and control frames -/

section Bus

variable {s : State}

/-- New values of the bus controller leave at most an attempt due where nothing was. -/
theorem Out.conclude_setTbc (t : Tbc) (hs : s.settled = true) :
    Out.conclude (s.setTbc t, []) = (s.setTbc t).begun.refresh := by
  refine Out.conclude_begun _ fun hr => ?_
  have e : (s.setTbc t).otherwiseCalm = s.heard.otherwiseCalm := otherwiseCalm_congr rfl
  rw [e]
  exact State.heard_otherwiseCalm hs hr

/-- R128: the three conditions of an interface on the bus, by its error counts. -/
theorem Tbc.judged_can (t : Tbc) :
    (t.judged.can = .busOff ↔ 255 < t.txErr) ∧
      (t.judged.can = .errorPassive ↔ t.txErr ≤ 255 ∧ (128 ≤ t.txErr ∨ 128 ≤ t.rxErr)) ∧
      (t.judged.can = .errorActive ↔ t.txErr < 128 ∧ t.rxErr < 128) := by
  unfold Tbc.judged
  simp only [Bool.or_eq_true, decide_eq_true_eq]
  split
  next h => exact ⟨iff_of_true rfl h, iff_of_false (by simp) (by omega), iff_of_false (by simp) (by omega)⟩
  next h =>
    split
    next k => exact ⟨iff_of_false (by simp) h, iff_of_true rfl ⟨by omega, k⟩, iff_of_false (by simp) (by omega)⟩
    next k => exact ⟨iff_of_false (by simp) h, iff_of_false (by simp) (by omega), iff_of_true rfl (by omega)⟩

/-- R128: an error of an interface on the bus raises its count, which decides the condition. -/
theorem Tbc.error_of_onBus (e : BusError) {t : Tbc} (h : t.can.onBus = true) :
    t.error e = Tbc.judged { t with
      attempt := none
      txErr := match e with
        | .receive => t.txErr
        | .transmit => min 256 (t.txErr + 8)
        | .unacknowledged => if t.can = .errorPassive then t.txErr else min 256 (t.txErr + 8)
      rxErr := if e = .receive then min 255 (t.rxErr + 1) else t.rxErr } := by
  unfold Tbc.error
  rw [if_pos h]
  cases e with
  | transmit | receive => rfl
  | unacknowledged =>
    by_cases hp : t.can = .errorPassive
    · simp [hp]
    · simp [hp]

theorem Tbc.recovered_of_busOff {t : Tbc} (h : t.can = .busOff) :
    t.recovered = { t with can := .errorActive, txErr := 0, rxErr := 0 } := if_pos (beq_iff_eq.mpr h)

/-- R138: the first expired queue timer is BUS-LOST. -/
theorem Tbc.queueExpired_of_least {n : Nat} (h : leastTimer s.tbc.queue = some n) (hl : s.tbc.busLost = false) :
    Tbc.queueExpired s =
      (s.setTbc (Tbc.lose { s.tbc with queue := restTimer n s.tbc.queue }), [.cluBusLost, .atuSources]) := by
  unfold Tbc.queueExpired
  rw [h]
  exact if_neg (by rw [hl]; exact Bool.false_ne_true)

end Bus

/-- Settles O47: the period, the queue timer and the error counts by their equations. -/
theorem busTimersAndErrors : Obligations.BusTimersAndErrors := by
  refine fun s => ⟨fun hp => ?period, fun n hn hl => ?lost, fun hs hbus e => ?error, fun hs hoff => ?recovery⟩
  case period =>
    intro o
    have ho : o = (s.setTbc (Tbc.order .status { s.tbc with period := some 1000 }), [.shcPass]) := if_pos hp
    obtain ⟨q, hq⟩ := Tbc.order_eq .status { s.tbc with period := some 1000 }
    have ht : o.1.tbc = { s.tbc with period := some 1000, queue := q } := (congrArg (·.1.tbc) ho).trans hq
    refine ⟨rfl, by rw [ho]; rfl, by rw [ht], by rw [ho], by rw [ht], fun hsends hroom => ?_⟩
    rw [ho]
    exact Tbc.order_status_mem (t := { s.tbc with period := some 1000 }) hsends hroom
  case lost =>
    intro o
    have ho : o = _ := Tbc.queueExpired_of_least hn hl
    rw [ho]
    refine ⟨congrArg Out.outcome ho, rfl, rfl, fun f hf => ?_, rfl, rfl⟩
    simpa using (List.mem_filter.mp hf).2
  case error =>
    refine ⟨s.tbc.error e, congrArg Host.Outcome.next (Out.conclude_setTbc _ hs), ?_⟩
    rw [Tbc.error_of_onBus e hbus]
    exact ⟨rfl, rfl, rfl, rfl, rfl, Tbc.judged_can _⟩
  case recovery =>
    show Out.outcome (s.setTbc s.tbc.recovered, []) = _
    rw [Tbc.recovered_of_busOff hoff]
    exact congrArg Host.Outcome.next (Out.conclude_setTbc _ hs)

section Control

variable {s : State} {ident : BitVec 11} {d : List Byte}

/-- R141: a CONTROL that names the own berth. -/
theorem Tbc.frame_of_control (hbus : s.tbc.can.onBus = true) (hid : ident.toNat = 480) (hown : 1 ≤ s.own)
    (hlen : d.length = 4) (hnamed : fieldNat d 0 1 = s.own) : Tbc.frame ident d s = Tbc.onControl d s.heard := by
  have hpassed : reception s.own ident d = .passed .control 0 :=
    (reception_passed ..).mpr ⟨by simp [BusKind.code, hid], by simp [hid], by omega, by omega, rfl, by rw [hlen]; rfl⟩
  rw [Tbc.frame_of_passed hbus hpassed]
  exact if_pos hnamed

/-- Section 12.6: a status set names a status by its bit. -/
theorem Status.named_ofNat (n : Nat) (x : Status) : Status.named (BitVec.ofNat 16 n) x = n.testBit x.bit := by
  have hbit : x.bit < 16 := by cases x <;> decide
  rw [Status.named, BitVec.getLsbD_ofNat, decide_eq_true hbit, Bool.true_and]

/-- R136: what an expired age makes of an entry. -/
def Peer.staled (p : Peer) : Peer := if p.live then { p with live := false, age := max 3000 p.age } else p

theorem Peer.staled_berth (p : Peer) : p.staled.berth = p.berth := by
  unfold Peer.staled
  split <;> rfl

theorem State.conclude_heard_setAtu (a : Atu) (hs : s.settled = true) :
    Out.conclude (s.heard.setAtu a, []) = (s.heard.setAtu a).begun.refresh :=
  Out.conclude_begun _ fun hr =>
    (otherwiseCalm_congr (s := s.heard.setAtu a) (t := s.heard) rfl).trans (State.heard_otherwiseCalm hs hr)

end Control

/-- Settles O48: the entry of a stale peer, and each control frame, by its equation. -/
theorem peersAndControlFrames : Obligations.PeersAndControlFrames := by
  refine fun s hs => ⟨fun n p hp hlive => ?stale, fun hbus => ⟨?disregarded, fun hd => ?again, fun hd => ?first,
    fun ident d hid hown hlen hnamed => ⟨fun hitem => ?forget, fun hitem => ?clear⟩⟩⟩
  case stale =>
    refine ⟨updatePeer n Peer.staled s.tbc.peers, ?_, ?_, fun m hm => ?_⟩
    · exact congrArg Host.Outcome.next (Out.conclude_settled _ (settled_congr (s := s) rfl rfl rfl hs))
    · rw [findPeer_updatePeer n n _ Peer.staled_berth, if_pos rfl, hp, Option.map_some, Peer.staled, if_pos hlive]
    · rw [findPeer_updatePeer n m _ Peer.staled_berth, if_neg hm]
  case disregarded =>
    exact (congrArg Out.outcome (Tbc.receive_of_onBus _ hbus)).trans
      (congrArg Host.Outcome.next (Out.conclude_setTbc _ hs))
  case again =>
    refine (congrArg Out.outcome ((Tbc.receive_of_onBus _ hbus).trans (if_pos hd))).trans ?_
    exact congrArg Host.Outcome.next (Out.conclude_setTbc _ hs)
  case first =>
    have hd : ¬s.heard.tbc.duplicate = true :=
      by rw [show s.heard.tbc.duplicate = false from hd]; exact Bool.false_ne_true
    exact congrArg Out.outcome ((Tbc.receive_of_onBus _ hbus).trans (if_neg hd))
  case forget =>
    refine ⟨erasePeer (fieldNat d 3 1) s.tbc.peers, ?_, findPeer_erasePeer_self _ _,
      fun m hm => findPeer_erasePeer_other _ _ hm _⟩
    have e : Tbc.onControl d s.heard = Tbc.forget (fieldNat d 3 1) s.heard := by
      rw [Tbc.onControl, hitem]
      rfl
    refine (congrArg Out.outcome ((Tbc.frame_of_control hbus hid hown hlen hnamed).trans e)).trans ?_
    exact congrArg Host.Outcome.next (State.conclude_heard _ hs)
  case clear =>
    refine ⟨s.atu.statuses.filter fun x => !Status.named (BitVec.ofNat 16 (fieldNat d 2 2)) x, ?_, fun x => ?_⟩
    · have e : Tbc.onControl d s.heard = Atu.clear (BitVec.ofNat 16 (fieldNat d 2 2)) s.heard := by
        rw [Tbc.onControl, hitem]
        rfl
      refine (congrArg Out.outcome ((Tbc.frame_of_control hbus hid hown hlen hnamed).trans e)).trans ?_
      exact congrArg Host.Outcome.next (State.conclude_heard_setAtu _ hs)
    · rw [List.mem_filter, Status.named_ofNat, Bool.not_eq_true']

end Sys2Proof.Machine
